-- ==== Sys2Proof/Machine/Params.lean ====
section
/-! DEFINITION. The named literals of R7, each with the value the document gives (unaudited: log 14). -/

namespace Sys2Proof.Params

/-- `BASE_LED`: motor bytes at or above it are `LED_TOGGLE`. -/
@[simp] abbrev baseLed : Int := 128
/-- `BASE_REV`: motor bytes from it up to `BASE_LED` − 1 are `REVERSE`. -/
@[simp] abbrev baseRev : Int := 64
/-- `BASE_FWD`: subtracted from every motor byte below `BASE_REV`. -/
@[simp] abbrev baseFwd : Int := 32
/-- `DUTY_OFFSET`: `onDuration` is the magnitude plus this. -/
@[simp] abbrev dutyOffset : Int := 10
/-- `PERIOD_TICKS`: `offDuration` is this minus `onDuration`. -/
@[simp] abbrev periodTicks : Int := 20
/-- `NEUTRAL_ON`: the on-phase is skipped when `onDuration` equals it. -/
@[simp] abbrev neutralOn : Int := 10
/-- `FULL_ON`: the off-phase is skipped when `onDuration` equals it (literal guard). -/
@[simp] abbrev fullOn : Int := 20
/-- `LEVEL_REV`: the `outputLevel` written by `REVERSE`. -/
@[simp] abbrev levelRev : Int := 5
/-- `LEVEL_FWD`: the `outputLevel` written by `FORWARD`. -/
@[simp] abbrev levelFwd : Int := 9
/-- `LEVEL_IDLE`: the `outputLevel` at reset. -/
@[simp] abbrev levelIdle : Int := 0
/-- `LED_ON`: the `ledMask` value "enabled". -/
@[simp] abbrev ledOn : Int := 2
/-- `LED_OFF`: the other `ledMask` value. -/
@[simp] abbrev ledOff : Int := 0
/-- `BASE_X`: servo bytes at or above it are `X_AXIS`. -/
@[simp] abbrev baseX : Int := 64
/-- The weight of bit 7, which separates the two bit patterns of `X_AXIS` (R73). -/
@[simp] abbrev xHigh : Int := 128
/-- `BASE_Y`: servo bytes from it up to `BASE_X` − 1 are `Y_AXIS`. -/
@[simp] abbrev baseY : Int := 32
/-- `COUNT_MAX`: a pulse count is this minus the magnitude. -/
@[simp] abbrev countMax : Int := 10
/-- `T_BUF`: 550 µs in base ticks of 10 µs (R141). -/
@[simp] abbrev tBuf : Nat := 55
/-- `T_UNIT`: 180 µs in base ticks of 10 µs (R141). -/
@[simp] abbrev tUnit : Nat := 18
/-- `T_IDLE`: 10 ms in base ticks of 10 µs (R141). -/
@[simp] abbrev tIdle : Nat := 1000
/-- `REG_W`: the width of each register of the file, two's complement signed (R21, D2). -/
abbrev regW : Nat := 16
/-- `SERVO_BASE`: microseconds of one servo base tick (R110, D17). -/
@[simp] abbrev servoBase : Nat := 10

end Sys2Proof.Params
end

