-- ==== Sys2Proof/Word.lean ====
section
/-! DEFINITION. The two word types of the core: the received byte and a control register. -/

namespace Sys2Proof

/-- A command byte, "an 8-bit unsigned value received from the serial peripheral" (R9, R50). -/
abbrev Byte := BitVec 8

/-- A register of the shared control register file: `REG_W` bits, two's complement (R21). -/
abbrev Reg := BitVec Params.regW

end Sys2Proof
end

