-- ==== Sys2Proof/Config.lean ====
section
/-! DEFINITION. What is fixed when a core is built and the spec leaves open: the two design-time choices as types,
and the open parameters of R7 as constants without a body. -/

namespace Sys2Proof

/-- The parameter `PROFILE` (R2): which decoder and which generator the core has. -/
inductive Profile where
  | motor
  | servo
  deriving DecidableEq, Repr

/-- The parameter `OFF_GUARD` (R7, R124): which off-phase guard the motor generator evaluates. -/
inductive OffGuard where
  | literal
  | corrected
  deriving DecidableEq, Repr

/-- `NEG_HOLD` (R114, D12): the base ticks of the hold that draw number `draw` of a run gives to the negative
count `n`. A free value, log 5: any natural number, afresh at each load. -/
opaque Config.negHold : (draw : Nat) → (n : Int) → Nat

/-- How far `BUS_W` exceeds its least value 4 (R7, D4), log 6. -/
opaque Config.busWExtra : Nat

/-- `BUS_W`, the width of the output bus: open, at least 4 (R7, D4). -/
def Config.busW : Nat := 4 + Config.busWExtra

/-- `X_SEL` (R147, D18): a bus value of which nothing is assumed, log 6. -/
opaque Config.xSel : BitVec Config.busW

/-- `Y_SEL` (R147, D18): a bus value of which nothing is assumed, log 6. -/
opaque Config.ySel : BitVec Config.busW

/-- `IDLE_SEL` (R147, D18): a bus value of which nothing is assumed, log 6. -/
opaque Config.idleSel : BitVec Config.busW

/-- `T_TICK_MOTOR` (R7, R110, D19): microseconds of one motor tick. No step uses it, log 13. -/
opaque Config.tTickMotor : Nat

end Sys2Proof
end

