-- ==== Sys2Proof/Machine/State.lean ====
section
/-! DEFINITION. The state of the core, why a step can stop, and the state right after reset. -/

namespace Sys2Proof.Machine

/-- The names of the six registers of the shared control register file (R20). They have no numbers. -/
inductive RegName where
  | onDuration
  | offDuration
  | outputLevel
  | ledMask
  | xPulseCount
  | yPulseCount
  deriving DecidableEq, Repr

/-- The shared control register file (R20 to R27): all six registers, whatever the profile (D3). -/
structure RegFile where
  /-- R22 -/
  onDuration : Reg
  /-- R23 -/
  offDuration : Reg
  /-- R24 -/
  outputLevel : Reg
  /-- R25 -/
  ledMask : Reg
  /-- R26 -/
  xPulseCount : Reg
  /-- R27 -/
  yPulseCount : Reg
  deriving DecidableEq, Repr

/-- The sequencer state (R31): the phase whose start is next. -/
inductive Phase where
  | mOn
  | mOff
  | sX
  | sY
  | sIdle
  deriving DecidableEq, Repr

/-- An event of the observable trace (R33, R111). -/
inductive Event where
  /-- `Drive(v)`: the bus was set to `v`. -/
  | drive (v : Int)
  /-- `Tick`: one base tick of time passed. -/
  | tick
  deriving DecidableEq, Repr

/-- What the host presents at the command port at one step boundary (R40, R172), log 2. -/
inductive Slot where
  /-- The byte `b` arrives (`rx_valid` with `rx_data = b`). -/
  | byte (b : Byte)
  /-- No byte arrives before the core's next own step. -/
  | idle
  deriving DecidableEq, Repr

/-- The whole state (INVENTORY.md, State). -/
structure State where
  /-- `PROFILE`, carried with the state and never changed (R2, R36), log 1. -/
  profile : Profile
  /-- `OFF_GUARD`, carried with the state and never changed (R124), log 1. -/
  offGuard : OffGuard
  /-- The shared control register file (R20). -/
  rf : RegFile
  /-- The phase whose start is next (R31). -/
  phase : Phase
  /-- The base ticks that remain of the current hold (R32). -/
  cnt : Nat
  /-- The value last driven on the output bus; none before the first `BusWrite` (R33, D5), log 7. -/
  bus : Option Int
  /-- "configure output bus as output" has been called (R35). -/
  busOutEn : Bool
  /-- "enable serial-receive interrupt" has been called (R35). -/
  rxIe : Bool
  /-- "enable global interrupts" has been called (R35). -/
  gIe : Bool
  /-- The observable trace, oldest event first (R33, R193), log 10. -/
  trace : List Event
  /-- The model's own: how many `NEG_HOLD` draws have been taken (R114), log 5. -/
  draws : Nat
  /-- The model's own: what the host does at each coming step boundary (R176), log 2. -/
  script : List Slot
  deriving DecidableEq, Repr

/-- Why the machine stops with a fault: never. "The core raises no synchronous exception, fault or trap, on any
command byte and in any state" (R160), so the type has no member; nothing raises one, log 17. -/
inductive Fault where
  deriving DecidableEq, Repr

/-- Why a step has no meaning. -/
inductive Refusal where
  /-- Raised by an arm of `exec` whose instruction has no meaning yet; no arm raises it. Safe: the model stops. -/
  | notModelled (mnemonic : String)
  /-- Raised by `step` when a byte arrives while `rxIe` or `gIe` is 0, which is before launch: U12 of
  93_implementation_defined.md ("not stated", treatment "refuse"), log 4. Safe: the model stops where the hardware
  goes on in a way no source gives. -/
  | byteBeforeLaunch
  deriving DecidableEq, Repr

/-- The first phase of each profile's cycle (R31, D6). -/
def Phase.first : Profile → Phase
  | .motor => .mOn
  | .servo => .sX

/-- The reset values of the register file (R38). -/
def RegFile.reset : RegFile where
  onDuration := 10
  offDuration := 10
  outputLevel := BitVec.ofInt Params.regW Params.levelIdle
  ledMask := BitVec.ofInt Params.regW Params.ledOn
  xPulseCount := 0
  yPulseCount := 0

/-- The state right after power-on reset of a core built with profile `p` and off-phase guard `g` (R191): the
register file at its defaults, the three enables 0, `cnt` 0, `phase` the first phase, `bus` without a value. -/
def State.resetFor (p : Profile) (g : OffGuard) : State where
  profile := p
  offGuard := g
  rf := RegFile.reset
  phase := Phase.first p
  cnt := 0
  bus := none
  busOutEn := false
  rxIe := false
  gIe := false
  trace := []
  draws := 0
  script := []

/-- The state at launch of a core built with `p` and `g` (R193): reset, with the three enables 1. -/
def State.launchFor (p : Profile) (g : OffGuard) : State :=
  { State.resetFor p g with busOutEn := true, rxIe := true, gIe := true }

/-- Right after reset: the motor profile (DESIGN CHOICE, log 1) with the literal off-phase guard (R7's default). -/
def State.reset : State := State.resetFor .motor .literal

end Sys2Proof.Machine
end

