-- ==== Sys2Proof/Machine/Operands.lean ====
section
/-! DEFINITION. The operand of a command and how an integer stands in a byte and in a register. -/

namespace Sys2Proof.Machine

/-- The command byte as "an unsigned number from 0 to 255" (R52). -/
def byteVal (b : Byte) : Int := (b.toNat : Int)

/-- The byte of value `v`, for `v` from 0 to 255. -/
def byteOf (v : Int) : Byte := BitVec.ofInt 8 v

/-- The magnitude: "subtraction of the tag base from the whole byte, as signed integer arithmetic" (R74). -/
def magnitude (base : Int) (b : Byte) : Int := byteVal b - base

/-- An integer as a register holds it: `REG_W` bits, two's complement (R21). No value a rule writes wraps (R94,
R104), log 8. -/
def regOf (v : Int) : Reg := BitVec.ofInt Params.regW v

/-- The signed integer a register holds (R21). -/
def regVal (r : Reg) : Int := r.toInt

end Sys2Proof.Machine
end

