-- ==== Sys2Proof/Syntax.lean ====
section
/-! DEFINITION. The commands: one constructor per row of spec/opcode_table.json, and the written spellings of R81. -/

namespace Sys2Proof

/-- A decoded command. `m` is the magnitude, the byte minus its tag base, signed and unscaled (R74); `k` is the
part of the byte below the tag of a command without an operand, which nothing reads. -/
inductive Instr where
  /-- Motor, `1xxxxxxx` (R91). -/
  | ledToggle (k : Int)
  /-- Motor, `01mmmmmm` (R92). -/
  | reverse (m : Int)
  /-- Motor, `00ffffff`, `m = f − 32` (R93). -/
  | forward (m : Int)
  /-- Servo, `1nnnnnnn`, `m = 64 + n`: the high form of `X_AXIS` (R101, R73). -/
  | xAxisHigh (m : Int)
  /-- Servo, `01mmmmmm`: the low form of `X_AXIS` (R101, R73). -/
  | xAxisLow (m : Int)
  /-- Servo, `001mmmmm` (R102). -/
  | yAxis (m : Int)
  /-- Servo, `000xxxxx` (R103). -/
  | ignored (k : Int)
  deriving DecidableEq, Repr

/-- The profile a command belongs to (R72, R73). -/
def Instr.profile : Instr → Profile
  | .ledToggle _ => .motor
  | .reverse _ => .motor
  | .forward _ => .motor
  | .xAxisHigh _ => .servo
  | .xAxisLow _ => .servo
  | .yAxis _ => .servo
  | .ignored _ => .servo

/-- A row of the opcode table, without its operand. -/
inductive Opcode where
  | ledToggle
  | reverse
  | forward
  | xAxisHigh
  | xAxisLow
  | yAxis
  | ignored
  deriving DecidableEq, Repr

/-- The row of the opcode table a command stands in. -/
def Instr.opcode : Instr → Opcode
  | .ledToggle _ => .ledToggle
  | .reverse _ => .reverse
  | .forward _ => .forward
  | .xAxisHigh _ => .xAxisHigh
  | .xAxisLow _ => .xAxisLow
  | .yAxis _ => .yAxis
  | .ignored _ => .ignored

/-- A command as R81 writes it: a mnemonic and a decimal operand, or the pseudo-instruction `BYTE n`. -/
inductive Spelling where
  | ledToggle (k : Int)
  | reverse (m : Int)
  | forward (m : Int)
  | xAxis (m : Int)
  | yAxis (m : Int)
  | ignored (k : Int)
  | byte (n : Int)
  deriving DecidableEq, Repr

end Sys2Proof
end

