-- ==== Sys2Proof/WellFormed.lean ====
section
/-! DEFINITION. Which commands some byte encodes: the operand ranges of R75 and R81. -/

namespace Sys2Proof

/-- The operand lies in the range its byte band gives it (R75, R81): `LED_TOGGLE` 0 to 127, `REVERSE` 0 to 63,
`FORWARD` −32 to 31, `X_AXIS` 64 to 191 (high form) and 0 to 63 (low form), `Y_AXIS` 0 to 31, `IGNORED` 0 to 31.
It is not the "well-formed input" of R9 (magnitude 0 to 10), which is `wellFormedByte` in Safety.lean. -/
def Instr.wf : Instr → Bool
  | .ledToggle k => decide (0 ≤ k) && decide (k ≤ 255 - Params.baseLed)
  | .reverse m => decide (0 ≤ m) && decide (m < Params.baseLed - Params.baseRev)
  | .forward m => decide (-Params.baseFwd ≤ m) && decide (m < Params.baseRev - Params.baseFwd)
  | .xAxisHigh m => decide (Params.xHigh - Params.baseX ≤ m) && decide (m ≤ 255 - Params.baseX)
  | .xAxisLow m => decide (0 ≤ m) && decide (m < Params.xHigh - Params.baseX)
  | .yAxis m => decide (0 ≤ m) && decide (m < Params.baseX - Params.baseY)
  | .ignored k => decide (0 ≤ k) && decide (k < Params.baseY)

end Sys2Proof
end

