-- ==== Sys2Proof/Decode.lean ====
section
/-! DEFINITION. The command decoder's selection (R76, R77), the encoder (R81), and the opcode table's bit patterns. -/

namespace Sys2Proof

open Sys2Proof.Machine

/-- Decode order of the motor profile (R76, R90): the first comparison that holds selects the command. -/
def decodeMotor (b : Byte) : Instr :=
  if Params.baseLed ≤ byteVal b then .ledToggle (magnitude Params.baseLed b)
  else if Params.baseRev ≤ byteVal b then .reverse (magnitude Params.baseRev b)
  else .forward (magnitude Params.baseFwd b)

/-- Decode order of the servo profile (R77, R100). `X_AXIS` is one comparison with 64; bit 7 only tells its two
bit patterns apart (R73). -/
def decodeServo (b : Byte) : Instr :=
  if Params.baseX ≤ byteVal b then
    if Params.xHigh ≤ byteVal b then .xAxisHigh (magnitude Params.baseX b)
    else .xAxisLow (magnitude Params.baseX b)
  else if Params.baseY ≤ byteVal b then .yAxis (magnitude Params.baseY b)
  else .ignored (byteVal b)

/-- The command a byte is in a profile (R78). Total: "All 256 byte values are commands" (R70), none is refused
(R79). -/
def decode (p : Profile) (b : Byte) : Instr :=
  match p with
  | .motor => decodeMotor b
  | .servo => decodeServo b

/-- Why a list of bytes holds no command: a command is exactly one byte (R70). -/
inductive DecodeReject where
  /-- There is no byte at all. Safe: nothing is decoded. -/
  | noByte
  deriving DecidableEq, Repr

/-- The first command of a list of bytes and the bytes after it. -/
def decodeBytes (p : Profile) : List Byte → Except DecodeReject (Instr × List Byte)
  | [] => .error .noByte
  | b :: rest => .ok (decode p b, rest)

/-- The value of a command's byte (R81): the tag base plus the operand. -/
def encodeVal : Instr → Int
  | .ledToggle k => Params.baseLed + k
  | .reverse m => Params.baseRev + m
  | .forward m => Params.baseFwd + m
  | .xAxisHigh m => Params.baseX + m
  | .xAxisLow m => Params.baseX + m
  | .yAxis m => Params.baseY + m
  | .ignored k => k

/-- The byte of a well-formed command. -/
def encode (i : Instr) : Byte := byteOf (encodeVal i)

/-- The byte a written command stands for (R81). -/
def Spelling.encode : Spelling → Byte
  | .ledToggle k => byteOf (Params.baseLed + k)
  | .reverse m => byteOf (Params.baseRev + m)
  | .forward m => byteOf (Params.baseFwd + m)
  | .xAxis m => byteOf (Params.baseX + m)
  | .yAxis m => byteOf (Params.baseY + m)
  | .ignored k => byteOf k
  | .byte n => byteOf n

/-- The bits a row of the opcode table fixes: (mask, pattern), as R72 and R73 draw them. -/
def Opcode.pattern : Opcode → Byte × Byte
  | .ledToggle => (0b10000000, 0b10000000)
  | .reverse => (0b11000000, 0b01000000)
  | .forward => (0b11000000, 0b00000000)
  | .xAxisHigh => (0b10000000, 0b10000000)
  | .xAxisLow => (0b11000000, 0b01000000)
  | .yAxis => (0b11100000, 0b00100000)
  | .ignored => (0b11100000, 0b00000000)

/-- The byte has the row's fixed bits. -/
def Opcode.fits (o : Opcode) (b : Byte) : Bool := b &&& o.pattern.1 == o.pattern.2

/-- The rows of a profile, in the table's order. -/
def Profile.rows : Profile → List Opcode
  | .motor => [.ledToggle, .reverse, .forward]
  | .servo => [.xAxisHigh, .xAxisLow, .yAxis, .ignored]

/-- The low bytes of a table word: one for every started eight of `nbits`, at least one, the first in bits 7..0. -/
def tableBytes (nbits w : Nat) : List Byte :=
  (List.range (max 1 ((nbits + 7) / 8))).map fun j => BitVec.ofNat 8 (w % 2 ^ nbits / 256 ^ j)

/-- What the decoder reads from the instruction whose bits are `w`, in the profile `p`: a command is one byte, so
a longer word is none. -/
def decodeTableWordFor (p : Profile) (nbits w : Nat) : Option Instr :=
  match decodeBytes p (tableBytes nbits w) with
  | .ok (i, []) => some i
  | _ => none

/-- `decodeTableWordFor` in the profile of `State.reset`, the motor profile (log 1): a table word alone does not say
which profile's row it is (R78). -/
def decodeTableWord (nbits w : Nat) : Option Instr := decodeTableWordFor .motor nbits w

end Sys2Proof
end

