-- ==== Sys2Proof/Machine/Flags.lean ====
section
/-! DEFINITION. The core has no flags (R37); what it tests are the two guards of the motor generator, evaluated at a
phase start and not stored. -/

namespace Sys2Proof.Machine

/-- The on-phase guard (R122): the phase runs unless `onDuration` is the neutral sentinel. -/
def onGuard (on : Int) : Bool := decide (on ≠ Params.neutralOn)

/-- `OffGuard(on, off)` (R124): literal `on != 20`, corrected `off != 0`. -/
def offGuardHolds (g : OffGuard) (on off : Int) : Bool :=
  match g with
  | .literal => decide (on ≠ Params.fullOn)
  | .corrected => decide (off ≠ 0)

end Sys2Proof.Machine
end

