-- ==== Sys2Proof/Machine/Ops.lean ====
section
/-! DEFINITION. The named operations on registers, bus and sequencer (00_scope.md section 5). There is no memory
(R50). There is no exception to take (R160): the receive interrupt saves nothing and restores nothing (R166, R167), so
taking it is `State.takeSlot` of Machine/Port.lean, and there is no return operation. -/

namespace Sys2Proof.Machine

/-- `RF[name]` (R20): a read has no side effect (R56). -/
def RegFile.read (rf : RegFile) : RegName → Reg
  | .onDuration => rf.onDuration
  | .offDuration => rf.offDuration
  | .outputLevel => rf.outputLevel
  | .ledMask => rf.ledMask
  | .xPulseCount => rf.xPulseCount
  | .yPulseCount => rf.yPulseCount

/-- `RF[name] <- v` on the file (R20): registers are written whole (R52). -/
def RegFile.write (rf : RegFile) (n : RegName) (v : Reg) : RegFile :=
  match n with
  | .onDuration => { rf with onDuration := v }
  | .offDuration => { rf with offDuration := v }
  | .outputLevel => { rf with outputLevel := v }
  | .ledMask => { rf with ledMask := v }
  | .xPulseCount => { rf with xPulseCount := v }
  | .yPulseCount => { rf with yPulseCount := v }

/-- The signed integer in the register `n`. -/
def State.readReg (s : State) (n : RegName) : Int := regVal (s.rf.read n)

/-- `RF[n] <- v`. -/
def State.writeReg (s : State) (n : RegName) (v : Int) : State := { s with rf := s.rf.write n (regOf v) }

/-- The writes shared by `REVERSE` and `FORWARD` (R92, R93): the level, `onDuration = m + 10`, and
`offDuration = 20 − (m + 10)`. -/
def State.setDuty (s : State) (level m : Int) : State :=
  ((s.writeReg .outputLevel level).writeReg .onDuration (m + Params.dutyOffset)).writeReg .offDuration
    (Params.periodTicks - (m + Params.dutyOffset))

/-- The write shared by the servo commands (R101, R102): the count is 10 minus the magnitude. -/
def State.setCount (s : State) (n : RegName) (m : Int) : State := s.writeReg n (Params.countMax - m)

/-- `BusWrite(v)` (R33): `bus <- v`, and the event `Drive(v)` joins the trace, also when the value is the same
(R56). -/
def State.busWrite (s : State) (v : Int) : State := { s with bus := some v, trace := s.trace ++ [.drive v] }

/-- `phase <- p` (R31). -/
def State.setPhase (s : State) (p : Phase) : State := { s with phase := p }

end Sys2Proof.Machine
end

