-- ==== Sys2Proof/Machine/MotorDecoder.lean ====
section
/-! DEFINITION. The meanings of the motor profile's commands (40_motor_decoder.md). -/

namespace Sys2Proof.Machine

/-- `LED_TOGGLE` (R91): the test is "equal to 2"; the low bits `_k` are ignored. -/
def execLedToggle (_k : Int) (s : State) : Host.Outcome State Fault Refusal :=
  .next (s.writeReg .ledMask (if s.readReg .ledMask = Params.ledOn then Params.ledOff else Params.ledOn))

/-- `REVERSE` (R92). -/
def execReverse (m : Int) (s : State) : Host.Outcome State Fault Refusal := .next (s.setDuty Params.levelRev m)

/-- `FORWARD` (R93). -/
def execForward (m : Int) (s : State) : Host.Outcome State Fault Refusal := .next (s.setDuty Params.levelFwd m)

end Sys2Proof.Machine
end

