-- ==== Sys2Proof/Machine/ServoDecoder.lean ====
section
/-! DEFINITION. The meanings of the servo profile's commands (41_servo_decoder.md). -/

namespace Sys2Proof.Machine

/-- `X_AXIS`, bytes 128 to 255 (R101). -/
def execXAxisHigh (m : Int) (s : State) : Host.Outcome State Fault Refusal := .next (s.setCount .xPulseCount m)

/-- `X_AXIS`, bytes 64 to 127 (R101). -/
def execXAxisLow (m : Int) (s : State) : Host.Outcome State Fault Refusal := .next (s.setCount .xPulseCount m)

/-- `Y_AXIS` (R102). -/
def execYAxis (m : Int) (s : State) : Host.Outcome State Fault Refusal := .next (s.setCount .yPulseCount m)

/-- `IGNORED` (R103): "the state after the step equals the state before it". -/
def execIgnored (_k : Int) (s : State) : Host.Outcome State Fault Refusal := .next s

end Sys2Proof.Machine
end

