-- ==== Sys2Proof/Machine/Dispatch.lean ====
section
/-! DEFINITION. The meaning of each command: one arm per constructor of `Instr`. -/

namespace Sys2Proof.Machine

/-- The decoder's effect for a command already selected: it writes nothing but the register file (R90, R100). -/
def exec (i : Instr) (s : State) : Host.Outcome State Fault Refusal :=
  match i with
  | .ledToggle k => Sys2Proof.Machine.execLedToggle k s
  | .reverse m => Sys2Proof.Machine.execReverse m s
  | .forward m => Sys2Proof.Machine.execForward m s
  | .xAxisHigh m => Sys2Proof.Machine.execXAxisHigh m s
  | .xAxisLow m => Sys2Proof.Machine.execXAxisLow m s
  | .yAxis m => Sys2Proof.Machine.execYAxis m s
  | .ignored k => Sys2Proof.Machine.execIgnored k s

end Sys2Proof.Machine
end

