-- ==== Sys2Proof/Machine/Boot.lean ====
section
/-! DEFINITION. The three initialisation calls (R177, R192), taken as three steps from reset to launch, log 3. -/

namespace Sys2Proof.Machine

/-- "configure output bus as output" (R192). -/
def State.configureOutputBus (s : State) : State := { s with busOutEn := true }

/-- "enable serial-receive interrupt" (R192). -/
def State.enableSerialReceive (s : State) : State := { s with rxIe := true }

/-- "enable global interrupts" (R192). -/
def State.enableGlobal (s : State) : State := { s with gIe := true }

/-- All three calls have been made (R193): the generator loop runs. -/
def State.launched (s : State) : Bool := s.busOutEn && s.rxIe && s.gIe

/-- The next call not yet made, in the order R192 lists them (log 16 for states no run reaches). -/
def State.initCall (s : State) : State :=
  if s.busOutEn = false then s.configureOutputBus
  else if s.rxIe = false then s.enableSerialReceive
  else s.enableGlobal

end Sys2Proof.Machine
end

