-- ==== Sys2Proof/Machine/Timer.lean ====
section
/-! DEFINITION. The tick timer: the hold primitive and the `Tick` step (42_timer.md). -/

namespace Sys2Proof.Machine

/-- How long a hold with the count `n` lasts, at `scale` base ticks per count: `scale * n` for `n ≥ 0`, a draw of
`NEG_HOLD(n)` for `n < 0` (R112, R114, R141). -/
def State.holdTicks (s : State) (scale : Nat) (n : Int) : Nat :=
  if 0 ≤ n then scale * n.toNat else Config.negHold s.draws n

/-- The draw that a load of the count `n` uses up: one when `n < 0` (R114), none otherwise (R117). -/
def State.useDraw (s : State) (n : Int) : State := if n < 0 then { s with draws := s.draws + 1 } else s

/-- `cnt <- base + hold`, the hold being of the count `n` at `scale` base ticks per count (R112, R141). -/
def State.loadHold (s : State) (base scale : Nat) (n : Int) : State :=
  { s.useDraw n with cnt := base + s.holdTicks scale n }

/-- `Load(n)` (R112), the motor generator's load of a register value. -/
def State.load (s : State) (n : Int) : State := s.loadHold 0 1 n

/-- `cnt <- 55 + PulseTicks(c)` (R141): the buffer is always waited in full. -/
def State.loadPulse (s : State) (c : Int) : State := s.loadHold Params.tBuf Params.tUnit c

/-- The `Tick` step (R111), enabled when `cnt > 0`. -/
def State.tick (s : State) : State := { s with cnt := s.cnt - 1, trace := s.trace ++ [.tick] }

/-- The base ticks of time since launch: the `Tick` events of the trace (R111). -/
def State.ticks (s : State) : Nat := s.trace.count .tick

/-- Microseconds of one base tick (R110): 10 in the servo profile, open in the motor profile (log 13). -/
def baseTickMicros : Profile → Nat
  | .motor => Config.tTickMotor
  | .servo => Params.servoBase

/-- Real time since launch in microseconds (R110, R208), of which no step depends. -/
def State.micros (s : State) : Nat := s.ticks * baseTickMicros s.profile

end Sys2Proof.Machine
end

