-- ==== Sys2Proof/Machine/MotorGenerator.lean ====
section
/-! DEFINITION. The phase starts of the motor generator (43_motor_generator.md). Each samples its registers at one
instant (R126), log 11; a skipped phase drives and loads nothing (R121), log 12. -/

namespace Sys2Proof.Machine

/-- `PhaseStart` with `phase == M_ON` (R122). -/
def State.startMOn (s : State) : State :=
  if onGuard (s.readReg .onDuration) then
    ((s.busWrite (s.readReg .outputLevel + s.readReg .ledMask)).load (s.readReg .onDuration)).setPhase .mOff
  else s.setPhase .mOff

/-- `PhaseStart` with `phase == M_OFF` (R123). -/
def State.startMOff (s : State) : State :=
  if offGuardHolds s.offGuard (s.readReg .onDuration) (s.readReg .offDuration) then
    ((s.busWrite (s.readReg .ledMask)).load (s.readReg .offDuration)).setPhase .mOn
  else s.setPhase .mOn

end Sys2Proof.Machine
end

