-- ==== Sys2Proof/Machine/ServoGenerator.lean ====
section
/-! DEFINITION. The phase starts of the servo generator (44_servo_generator.md). No phase is ever skipped (R140); one
drive per phase (R145), and the count is sampled at the start (R146), log 12. -/

namespace Sys2Proof.Machine

/-- A select level as a bus value (R147), log 6. -/
def selectLevel (v : BitVec Config.busW) : Int := (v.toNat : Int)

/-- `PhaseStart` with `phase == S_X` (R142). -/
def State.startSX (s : State) : State :=
  ((s.busWrite (selectLevel Config.xSel)).loadPulse (s.readReg .xPulseCount)).setPhase .sY

/-- `PhaseStart` with `phase == S_Y` (R143). -/
def State.startSY (s : State) : State :=
  ((s.busWrite (selectLevel Config.ySel)).loadPulse (s.readReg .yPulseCount)).setPhase .sIdle

/-- `PhaseStart` with `phase == S_IDLE` (R144). -/
def State.startSIdle (s : State) : State :=
  ((s.busWrite (selectLevel Config.idleSel)).load Params.tIdle).setPhase .sX

end Sys2Proof.Machine
end

