-- ==== Sys2Proof/Machine/Generator.lean ====
section
/-! DEFINITION. The core's own step: an initialisation call before launch, then `PhaseStart` or `Tick` (R41). -/

namespace Sys2Proof.Machine

/-- `PhaseStart` (R41): the rule of the current `phase` (log 16: `phase` alone selects it). -/
def State.phaseStart (s : State) : State :=
  match s.phase with
  | .mOn => s.startMOn
  | .mOff => s.startMOff
  | .sX => s.startSX
  | .sY => s.startSY
  | .sIdle => s.startSIdle

/-- The generator's step (R41): `PhaseStart` exactly when `cnt == 0`, `Tick` exactly when `cnt > 0`. -/
def State.generate (s : State) : State := if s.cnt = 0 then s.phaseStart else s.tick

/-- What the core does at a step boundary at which no byte arrives. -/
def State.advance (s : State) : State := if s.launched then s.generate else s.initCall

end Sys2Proof.Machine
end

