-- ==== Sys2Proof/Machine/Port.lean ====
section
/-! DEFINITION. The ports of the core (R50, R172): the command port, from which a byte is taken, and the bus pins. -/

namespace Sys2Proof.Machine

/-- The byte the host presents now, if any: `rx_valid` and `rx_data` (R172), log 2. -/
def State.rxByte (s : State) : Option Byte :=
  match s.script with
  | .byte b :: _ => some b
  | _ => none

/-- The step boundary passes: "Taking the byte from the command port consumes it" (R56). This is also the whole of
the receive interrupt's entry, which saves and changes nothing else (R166). -/
def State.takeSlot (s : State) : State := { s with script := s.script.tail }

/-- `Decode(b)` is enabled: `rxIe == 1` and `gIe == 1` (R35). -/
def State.rxEnabled (s : State) : Bool := s.rxIe && s.gIe

/-- `bus_out` (R172): the driven value on `BUS_W` pins. "`BusWrite` reaches the pins only when `busOutEn == 1`"
(R35); no value before that or before the first drive (R33), log 15. -/
def State.busOut (s : State) : Option (BitVec Config.busW) :=
  if s.busOutEn then s.bus.map (BitVec.ofInt Config.busW) else none

/-- `s` launched, with `bytes` next at the command port. -/
def State.presentWord (s : State) (bytes : List Byte) : State :=
  { s with busOutEn := true, rxIe := true, gIe := true, script := bytes.map Slot.byte ++ s.script }

end Sys2Proof.Machine
end

