-- ==== Sys2Proof/Machine/Step.lean ====
section
/-! DEFINITION. One step of the whole core (R41), and how an instruction is placed for the next step. -/

namespace Sys2Proof.Machine

/-- One step: `Decode(b)` when a byte arrives (R41, R164), refused before launch (log 4); the core's own step
otherwise. -/
def step (s : State) : Host.Outcome State Fault Refusal :=
  match s.rxByte with
  | some b => if s.rxEnabled then exec (decode s.profile b) s.takeSlot else .refused .byteBeforeLaunch
  | none => .next s.takeSlot.advance

/-- `s` with the table word `w` next at the command port, and launched, since a command runs only after launch
(R41), log 3. -/
def State.withFetchWord (s : State) (nbits w : Nat) : State := s.presentWord (tableBytes nbits w)

end Sys2Proof.Machine
end

