-- ==== Sys2Proof/Safety.lean ====
section
/-! DEFINITION. The terms claims are stated in: finite runs, well-formed input, the decoder's closed form, the step
relation of R41, the phases' traces, and the invariant of a run. -/

namespace Sys2Proof.Machine

/-- `k` steps of the core (R12: a claim is about a finite prefix): the host's run of `Sys2Proof.core`
(`run_eq_core` in Laws/Step.lean), at the model's own types. -/
def run : Nat → State → Host.Outcome State Fault Refusal
  | 0, s => .next s
  | k + 1, s =>
    match step s with
    | .next t => run k t
    | stop => stop

/-- The well-formed bytes of a profile (R9, R80, R117): magnitude 0 to 10, and the bytes that carry none. -/
def wellFormedByte (p : Profile) (b : Byte) : Bool :=
  match p with
  | .motor => (32 ≤ b.toNat && b.toNat ≤ 42) || (64 ≤ b.toNat && b.toNat ≤ 74) || 128 ≤ b.toNat
  | .servo => b.toNat ≤ 42 || (64 ≤ b.toNat && b.toNat ≤ 74)

/-- The register file after the byte `b`, in the closed form of the decoders' algorithms (R90 with R92 and R93's
closed forms, R100 with R101 and R102's): by the value of the byte, without the commands. -/
def byteEffect (p : Profile) (b : Byte) (rf : RegFile) : RegFile :=
  match p with
  | .motor =>
    if 128 ≤ b.toNat then { rf with ledMask := if rf.ledMask = 2 then 0 else 2 }
    else if 64 ≤ b.toNat then
      { rf with outputLevel := 5, onDuration := regOf (byteVal b - 54), offDuration := regOf (74 - byteVal b) }
    else { rf with outputLevel := 9, onDuration := regOf (byteVal b - 22), offDuration := regOf (42 - byteVal b) }
  | .servo =>
    if 64 ≤ b.toNat then { rf with xPulseCount := regOf (74 - byteVal b) }
    else if 32 ≤ b.toNat then { rf with yPulseCount := regOf (42 - byteVal b) }
    else rf

/-- The step relation of R41 after launch, over the state without the host's script: `Decode(b)` for any byte,
`PhaseStart` when `cnt == 0`, `Tick` when `cnt > 0`. -/
inductive CoreStep : State → State → Prop where
  | decode (s : State) (b : Byte) : CoreStep s { s with rf := byteEffect s.profile b s.rf }
  | phaseStart (s : State) (h : s.cnt = 0) : CoreStep s s.phaseStart
  | tick (s : State) (h : 0 < s.cnt) : CoreStep s s.tick

/-- `s` with another script. -/
def State.withScript (s : State) (l : List Slot) : State := { s with script := l }

/-- The byte a slot carries. -/
def Slot.isByte : Slot → Bool
  | .byte _ => true
  | .idle => false

/-- `t` is reached from `s` while `n` ticks pass and no byte arrives: the `WAIT n` of R81. -/
def State.waited (n : Nat) (s t : State) : Prop :=
  ∃ k, (∀ x ∈ s.script.take k, x = Slot.idle) ∧ run k s = .next t ∧ t.ticks = s.ticks + n

/-- The core has launched, no byte arrives now, no hold is in progress, and the phase `p` is due (R41). -/
def State.due (s : State) (p : Phase) : Prop :=
  s.launched = true ∧ s.rxByte = none ∧ s.cnt = 0 ∧ s.phase = p

/-- The events of a phase that drives `v` and holds `n` ticks. -/
def phaseTrace (v : Int) (n : Nat) : List Event := .drive v :: List.replicate n .tick

/-- The events of `n` equal cycles. -/
def cycles (n : Nat) (c : List Event) : List Event := (List.replicate n c).flatten

/-- The next phase of the cycle (R31). -/
def Phase.next : Phase → Phase
  | .mOn => .mOff
  | .mOff => .mOn
  | .sX => .sY
  | .sY => .sIdle
  | .sIdle => .sX

/-- The phase belongs to the profile's cycle (R31). -/
def Phase.fits : Profile → Phase → Bool
  | .motor, .mOn => true
  | .motor, .mOff => true
  | .servo, .sX => true
  | .servo, .sY => true
  | .servo, .sIdle => true
  | _, _ => false

/-- The last value driven in a trace (R33). -/
def lastDrive (l : List Event) : Option Int :=
  l.foldl (fun acc e => match e with | .drive v => some v | .tick => acc) none

/-- The register values reachable in the motor profile (R95, R20): one line per level of `outputLevel`, the servo
registers at reset. -/
def RegFile.MotorReach (rf : RegFile) : Prop :=
  (rf.ledMask = 0 ∨ rf.ledMask = 2) ∧
  regVal rf.onDuration + regVal rf.offDuration = 20 ∧
  ((rf.outputLevel = 0 ∧ regVal rf.onDuration = 10) ∨
   (rf.outputLevel = 5 ∧ 10 ≤ regVal rf.onDuration ∧ regVal rf.onDuration ≤ 73) ∨
   (rf.outputLevel = 9 ∧ -22 ≤ regVal rf.onDuration ∧ regVal rf.onDuration ≤ 41)) ∧
  rf.xPulseCount = 0 ∧ rf.yPulseCount = 0

/-- The register values reachable in the servo profile (R104, R20): the motor registers at reset. -/
def RegFile.ServoReach (rf : RegFile) : Prop :=
  (-181 ≤ regVal rf.xPulseCount ∧ regVal rf.xPulseCount ≤ 10) ∧
  (-21 ≤ regVal rf.yPulseCount ∧ regVal rf.yPulseCount ≤ 10) ∧
  rf.onDuration = 10 ∧ rf.offDuration = 10 ∧ rf.outputLevel = 0 ∧ rf.ledMask = 2

/-- The reachable register values of a profile. -/
def RegFile.Reach (rf : RegFile) : Profile → Prop
  | .motor => rf.MotorReach
  | .servo => rf.ServoReach

/-- The values a profile's generator drives: R127 in the motor profile, the three select levels in the servo
profile (R142 to R144). -/
def drivable (p : Profile) (v : Int) : Prop :=
  match p with
  | .motor => v = 0 ∨ v = 2 ∨ v = 5 ∨ v = 7 ∨ v = 9 ∨ v = 11
  | .servo => v = selectLevel Config.xSel ∨ v = selectLevel Config.ySel ∨ v = selectLevel Config.idleSel

/-- What holds in every state of a run. -/
structure State.Inv (s : State) : Prop where
  /-- R95, R104, R28, R20 -/
  regs : s.rf.Reach s.profile
  /-- R31 -/
  phase_fits : Phase.fits s.profile s.phase = true
  /-- R33: `bus` is the value last driven. -/
  bus_last : s.bus = lastDrive s.trace
  /-- R127, R147 -/
  bus_value : ∀ v, s.bus = some v → drivable s.profile v
  /-- R39: no tick before the first drive. -/
  undriven : s.bus = none → s.trace = [] ∧ s.cnt = 0
  /-- R192: the calls are made in order. -/
  boot_order : (s.gIe = true → s.rxIe = true) ∧ (s.rxIe = true → s.busOutEn = true)
  /-- R191, R193: until launch everything else is as reset left it. -/
  before_launch : s.launched = false →
    s.rf = RegFile.reset ∧ s.phase = Phase.first s.profile ∧ s.cnt = 0 ∧ s.bus = none ∧ s.trace = []

/-- Register values that well-formed input leaves (R22, R23, R26, R27), apart from those of `Reach`. -/
def RegFile.WellFormedFor (rf : RegFile) : Profile → Prop
  | .motor => 10 ≤ regVal rf.onDuration ∧ regVal rf.onDuration ≤ 20 ∧ regVal rf.offDuration = 20 - regVal rf.onDuration
  | .servo => (0 ≤ regVal rf.xPulseCount ∧ regVal rf.xPulseCount ≤ 10) ∧
      (0 ≤ regVal rf.yPulseCount ∧ regVal rf.yPulseCount ≤ 10)

/-- The premise of R117: well-formed registers, a phase of the profile, and only well-formed bytes still to come. -/
structure State.WellFormedRun (s : State) : Prop where
  regs : s.rf.WellFormedFor s.profile
  phase_fits : Phase.fits s.profile s.phase = true
  input : ∀ b, Slot.byte b ∈ s.script → wellFormedByte s.profile b = true

end Sys2Proof.Machine
end

