-- ==== Sys2Proof/Certificates/Slice0/Obligations.lean ====
section
/-! DEFINITION. The statements for the provers. "No byte arrives" is `rxByte = none`; a script `[]` is a host that stays
silent. Where a premise is an invariant (`State.Inv`), that every step keeps it is `InvariantKeptByEveryStep`. -/

open Sys2Proof Sys2Proof.Machine

/-! ### Reset and launch -/

/-- R38, R191, R193: what reset leaves, and the launch state, in both profiles. -/
def Obligations.ResetLoadsSafeDefaults : Prop :=
  ∀ p g, let s := State.resetFor p g
    s.readReg .onDuration = 10 ∧ s.readReg .offDuration = 10 ∧ s.readReg .outputLevel = 0 ∧
    s.readReg .ledMask = 2 ∧ s.readReg .xPulseCount = 0 ∧ s.readReg .yPulseCount = 0 ∧
    s.busOutEn = false ∧ s.rxIe = false ∧ s.gIe = false ∧ s.cnt = 0 ∧ s.bus = none ∧
    s.phase = (match p with | .motor => .mOn | .servo => .sX) ∧ s.rxEnabled = false ∧
    State.launchFor p g = { s with busOutEn := true, rxIe := true, gIe := true } ∧ s.trace = []

/-- R192, R193, taken as three steps (the model's choice, log 3): whatever the host sends later, the first three
steps in which no byte arrives make the three initialisation calls in R192's order and end in the launch state. -/
def Obligations.ThreeCallsLeadFromResetToLaunch : Prop :=
  ∀ p g (l : List Slot), (∀ x ∈ l.take 3, x = Slot.idle) →
    let s := State.resetFor p g
    run 1 (s.withScript l) = .next { s with busOutEn := true, script := l.drop 1 } ∧
    run 2 (s.withScript l) = .next { s with busOutEn := true, rxIe := true, script := l.drop 2 } ∧
    run 3 (s.withScript l) = .next ((State.launchFor p g).withScript (l.drop 3)) ∧
    (State.launchFor p g).launched = true ∧ (State.launchFor p g).rf = RegFile.reset ∧
    (State.launchFor p g).cnt = 0 ∧ (State.launchFor p g).bus = none ∧ (State.launchFor p g).trace = []

/-- R39: what the reset values make the core do with no command, for any number of cycles after launch. -/
def Obligations.IdleWaveformRepeatsForever : Prop :=
  (∀ g n, run (n * 12) (State.launchFor .motor g) =
    .next { State.launchFor .motor g with
      bus := if n = 0 then none else some 2
      trace := cycles n (phaseTrace 2 10) }) ∧
  (∀ g n, run (n * 1113) (State.launchFor .servo g) =
    .next { State.launchFor .servo g with
      bus := if n = 0 then none else some (selectLevel Config.idleSel)
      trace := cycles n (phaseTrace (selectLevel Config.xSel) 55 ++ phaseTrace (selectLevel Config.ySel) 55 ++
        phaseTrace (selectLevel Config.idleSel) 1000) })

/-! ### Encoding -/

/-- R76, R77: which command each byte is, by the thresholds, and its operand by subtraction. -/
def Obligations.ThresholdsSelectTheCommand : Prop :=
  ∀ b : Byte,
    (128 ≤ b.toNat → decode .motor b = .ledToggle (byteVal b - 128)) ∧
    (64 ≤ b.toNat → b.toNat < 128 → decode .motor b = .reverse (byteVal b - 64)) ∧
    (b.toNat < 64 → decode .motor b = .forward (byteVal b - 32)) ∧
    (128 ≤ b.toNat → decode .servo b = .xAxisHigh (byteVal b - 64)) ∧
    (64 ≤ b.toNat → b.toNat < 128 → decode .servo b = .xAxisLow (byteVal b - 64)) ∧
    (32 ≤ b.toNat → b.toNat < 64 → decode .servo b = .yAxis (byteVal b - 32)) ∧
    (b.toNat < 32 → decode .servo b = .ignored (byteVal b))

/-- R72, R73: in each profile every byte has the fixed bits of exactly one row, and is decoded as that row. -/
def Obligations.EveryByteFitsExactlyItsRow : Prop :=
  ∀ p (b : Byte) (o : Opcode), (o ∈ p.rows ∧ o.fits b = true) ↔ o = (decode p b).opcode

/-- Words written out from R72 and R73. -/
def Obligations.SampleWordsDecode : Prop :=
  decode .motor 0b11001000 = .ledToggle 72 ∧ decode .motor 0b01000110 = .reverse 6 ∧
  decode .motor 0b00000000 = .forward (-32) ∧ decode .motor 0b00100110 = .forward 6 ∧
  decode .servo 0b11001000 = .xAxisHigh 136 ∧ decode .servo 0b01000101 = .xAxisLow 5 ∧
  decode .servo 0b00101000 = .yAxis 8 ∧ decode .servo 0b00010000 = .ignored 16

/-- R74, R81: every well-formed command is decoded from its byte, with its operand. -/
def Obligations.DecodeOfEncodeIsTheCommand : Prop :=
  ∀ i : Instr, i.wf = true → decode i.profile (encode i) = i

/-- R70, R79: every byte is a well-formed command of its profile, and encoding it gives the byte back. -/
def Obligations.EncodeOfDecodeIsTheByte : Prop :=
  ∀ p (b : Byte), (decode p b).wf = true ∧ (decode p b).profile = p ∧ encode (decode p b) = b

/-! ### The commands -/

/-- R91. -/
def Obligations.LedToggleFlipsLedMaskOnly : Prop :=
  (∀ b : Byte, 128 ≤ b.toNat → ∃ k, decode .motor b = .ledToggle k) ∧
  ∀ k s, exec (.ledToggle k) s =
    .next { s with rf := { s.rf with ledMask := if s.readReg .ledMask = 2 then 0 else 2 } }

/-- R92: every byte from 64 to 127, with magnitude `byte − 64`. -/
def Obligations.ReverseSetsLevelAndDuty : Prop :=
  ∀ (b : Byte) (s : State), 64 ≤ b.toNat → b.toNat < 128 →
    decode .motor b = .reverse (byteVal b - 64) ∧
    ∃ t, exec (.reverse (byteVal b - 64)) s = .next t ∧
      t.readReg .outputLevel = 5 ∧ t.readReg .onDuration = (byteVal b - 64) + 10 ∧
      t.readReg .offDuration = 20 - ((byteVal b - 64) + 10) ∧
      t.rf.ledMask = s.rf.ledMask ∧ t.rf.xPulseCount = s.rf.xPulseCount ∧ t.rf.yPulseCount = s.rf.yPulseCount ∧
      { t with rf := s.rf } = s

/-- R93: every byte from 0 to 63, with the signed magnitude `byte − 32`. -/
def Obligations.ForwardSetsLevelAndDuty : Prop :=
  ∀ (b : Byte) (s : State), b.toNat < 64 →
    decode .motor b = .forward (byteVal b - 32) ∧
    ∃ t, exec (.forward (byteVal b - 32)) s = .next t ∧
      t.readReg .outputLevel = 9 ∧ t.readReg .onDuration = (byteVal b - 32) + 10 ∧
      t.readReg .offDuration = 20 - ((byteVal b - 32) + 10) ∧
      t.rf.ledMask = s.rf.ledMask ∧ t.rf.xPulseCount = s.rf.xPulseCount ∧ t.rf.yPulseCount = s.rf.yPulseCount ∧
      { t with rf := s.rf } = s

/-- R101: every byte from 64 to 255, in both bit patterns, with magnitude `byte − 64`. -/
def Obligations.XAxisSetsItsCount : Prop :=
  ∀ (b : Byte) (s : State), 64 ≤ b.toNat →
    decode .servo b = (if 128 ≤ b.toNat then .xAxisHigh (byteVal b - 64) else .xAxisLow (byteVal b - 64)) ∧
    ∀ i, i = .xAxisHigh (byteVal b - 64) ∨ i = .xAxisLow (byteVal b - 64) →
    ∃ t, exec i s = .next t ∧ t.readReg .xPulseCount = 10 - (byteVal b - 64) ∧
      { t with rf := { t.rf with xPulseCount := s.rf.xPulseCount } } = s

/-- R102: every byte from 32 to 63, with magnitude `byte − 32`. -/
def Obligations.YAxisSetsItsCount : Prop :=
  ∀ (b : Byte) (s : State), 32 ≤ b.toNat → b.toNat < 64 →
    decode .servo b = .yAxis (byteVal b - 32) ∧
    ∃ t, exec (.yAxis (byteVal b - 32)) s = .next t ∧ t.readReg .yPulseCount = 10 - (byteVal b - 32) ∧
      { t with rf := { t.rf with yPulseCount := s.rf.yPulseCount } } = s

/-- R103. -/
def Obligations.IgnoredByteChangesNothing : Prop :=
  (∀ b : Byte, b.toNat < 32 → ∃ k, decode .servo b = .ignored k) ∧ ∀ k s, exec (.ignored k) s = .next s

/-- R96, R105, R91: every command but `LED_TOGGLE` is idempotent, and two `LED_TOGGLE` restore a `ledMask` of 0
or 2. -/
def Obligations.CommandsIdempotentLedInvolutive : Prop :=
  (∀ i s t, (∀ k, i ≠ .ledToggle k) → exec i s = .next t → exec i t = .next t) ∧
  (∀ j k s t, s.readReg .ledMask = 0 ∨ s.readReg .ledMask = 2 → exec (.ledToggle j) s = .next t →
    exec (.ledToggle k) t = .next s)

/-- R57, R58: of two direction commands, or two commands to one axis, only the later one is left. -/
def Obligations.LastCommandWins : Prop :=
  (∀ i j s t, (∃ m, i = .reverse m ∨ i = .forward m) → (∃ m, j = .reverse m ∨ j = .forward m) →
    exec i s = .next t → exec j t = exec j s) ∧
  (∀ i j s t, (∃ m, i = .xAxisHigh m ∨ i = .xAxisLow m) → (∃ m, j = .xAxisHigh m ∨ j = .xAxisLow m) →
    exec i s = .next t → exec j t = exec j s) ∧
  (∀ m n s t, exec (.yAxis m) s = .next t → exec (.yAxis n) t = exec (.yAxis n) s)

/-- R105: a command to one axis does not alter the other, commands to different axes commute, and each servo command
is idempotent. -/
def Obligations.AxesAreIndependent : Prop :=
  ∀ i m s t u, (∃ k, i = .xAxisHigh k ∨ i = .xAxisLow k) → exec i s = .next t → exec (.yAxis m) s = .next u →
    t.rf.yPulseCount = s.rf.yPulseCount ∧ u.rf.xPulseCount = s.rf.xPulseCount ∧ exec (.yAxis m) t = exec i u ∧
    exec i t = .next t ∧ exec (.yAxis m) u = .next u ∧ ∀ k, exec (.ignored k) s = .next s

/-! ### The step -/

/-- A byte at the port is decoded in the core's profile and executed, its slot taken. -/
def Obligations.StepRunsTheReceivedCommand : Prop :=
  ∀ (s : State) (b : Byte) (rest : List Slot), s.script = .byte b :: rest → s.rxIe = true → s.gIe = true →
    step s = exec (decode s.profile b) { s with script := rest }

/-- A received byte acts on the register file by the closed forms of the decoders' algorithms (R90, R100). That a
burst of bytes is decoded in order, one `Decode(b)` each, none lost and none twice, is R164 in the reading taken
(D10, log 18). -/
def Obligations.BytesDecodeInOrder : Prop :=
  ∀ (bs : List Byte) (s : State) (rest : List Slot), s.rxEnabled = true → s.script = bs.map Slot.byte ++ rest →
    run bs.length s =
      .next { s with script := rest, rf := bs.foldl (fun rf b => byteEffect s.profile b rf) s.rf }

/-- R35, log 4: a byte that arrives while a receive enable is 0 is refused (the model's choice), and nothing else
stops a step (R160). -/
def Obligations.OnlyByteBeforeLaunchStops : Prop :=
  ∀ s : State,
    ((∃ b, s.rxByte = some b) ∧ (s.rxIe = false ∨ s.gIe = false) → step s = .refused .byteBeforeLaunch) ∧
    (¬ ((∃ b, s.rxByte = some b) ∧ (s.rxIe = false ∨ s.gIe = false)) → ∃ t, step s = .next t)

/-- R41: after launch the model's steps are exactly those of the step relation, whatever the host does: every step
is one of the relation's, and each of the relation's steps is taken under some next slot (that the host is a list of
slots is the model's choice, log 2). A phase start writes only `bus`, `cnt`, `phase` and the trace, and the model's own
count of draws (log 5); a tick counts down and adds its event. -/
def Obligations.StepsAreExactlyTheStepRelation : Prop :=
  (∀ s t : State, s.launched = true → step s = .next t → CoreStep (s.withScript []) (t.withScript [])) ∧
  (∀ s t : State, s.launched = true → CoreStep s t → ∃ x, step (s.withScript (x :: s.script)) = .next t) ∧
  (∀ s : State, { s.phaseStart with bus := s.bus, cnt := s.cnt, phase := s.phase, trace := s.trace, draws := s.draws } = s ∧
    s.tick = { s with cnt := s.cnt - 1, trace := s.trace ++ [.tick] })

/-- R11: a received byte leaves the bus, the timer, the phase and the trace; a generator step leaves the register
file. -/
def Obligations.DecoderAndGeneratorKeepApart : Prop :=
  ∀ s t : State, s.launched = true → step s = .next t →
    (∀ b, s.rxByte = some b → t.bus = s.bus ∧ t.cnt = s.cnt ∧ t.phase = s.phase ∧ t.trace = s.trace ∧
      t.draws = s.draws) ∧
    (s.rxByte = none → t.rf = s.rf)

/-- R170: what a byte does to the register file depends on the byte, the profile and the register file alone; and
what the generator does does not depend on which bytes are still to come. -/
def Obligations.NeitherContextSeesTheOther : Prop :=
  (∀ (s s' t t' : State) (b : Byte), s.rxByte = some b → s'.rxByte = some b → s.profile = s'.profile → s.rf = s'.rf →
    step s = .next t → step s' = .next t' → t.rf = t'.rf) ∧
  (∀ (s : State) (l : List Slot) (t t' : State), s.rxByte = none → (s.withScript l).rxByte = none → step s = .next t →
    step (s.withScript l) = .next t' → t.withScript [] = t'.withScript [])

/-- R106, R20, R2: the decoder of a profile never touches the other profile's registers, nor does the generator, and
no step changes the profile. -/
def Obligations.InactiveRegistersAreNeverTouched : Prop :=
  ∀ s t : State, step s = .next t → t.profile = s.profile ∧ t.offGuard = s.offGuard ∧
    (s.profile = .motor → t.rf.xPulseCount = s.rf.xPulseCount ∧ t.rf.yPulseCount = s.rf.yPulseCount) ∧
    (s.profile = .servo → t.rf.onDuration = s.rf.onDuration ∧ t.rf.offDuration = s.rf.offDuration ∧
      t.rf.outputLevel = s.rf.outputLevel ∧ t.rf.ledMask = s.rf.ledMask)

/-- R31: `phase` moves only by a phase start, and then to the next phase of the cycle, skipped or not. -/
def Obligations.PhaseAdvancesOnlyAtPhaseStarts : Prop :=
  ∀ s t : State, step s = .next t →
    (s.launched = true ∧ s.rxByte = none ∧ s.cnt = 0 → t.phase = s.phase.next) ∧
    (¬ (s.launched = true ∧ s.rxByte = none ∧ s.cnt = 0) → t.phase = s.phase)

/-- R165: a byte and a phase start due at the same instant may come in either order, each whole. -/
def Obligations.ByteAndPhaseStartInEitherOrder : Prop :=
  ∀ (s : State) (b : Byte), s.launched = true → s.cnt = 0 →
    let q := s.withScript []
    run 2 (s.withScript [.byte b, .idle]) =
      .next ({ q with rf := byteEffect s.profile b s.rf } : State).phaseStart ∧
    run 2 (s.withScript [.idle, .byte b]) =
      .next { q.phaseStart with rf := byteEffect s.profile b s.rf }

/-! ### Timer -/

/-- R111. -/
def Obligations.TickCountsDown : Prop :=
  ∀ s : State, s.launched = true → s.rxByte = none → 0 < s.cnt →
    step s = .next { s with script := s.script.tail, cnt := s.cnt - 1, trace := s.trace ++ [.tick] }

/-- R114, R112: a load of `n ≥ 0` holds exactly `n` base ticks and draws nothing; a negative one holds the next
draw, whatever it is. -/
def Obligations.NegativeHoldIsAFreshDraw : Prop :=
  ∀ (s : State) (n : Int),
    (0 ≤ n → s.load n = { s with cnt := n.toNat }) ∧
    (n < 0 → s.load n = { s with cnt := Config.negHold s.draws n, draws := s.draws + 1 })

/-- R59, R118, R112: while a hold lasts, whatever bytes arrive and however they fall between the ticks, `bus` and
`phase` keep and `cnt` falls by exactly one per tick taken (a step that takes no byte is a tick; a script that has
ended brings no more bytes). -/
def Obligations.HoldUndisturbedByCommands : Prop :=
  ∀ (s : State) (k : Nat), s.launched = true →
    let ticks := k - (s.script.take k).countP Slot.isByte
    ticks ≤ s.cnt →
    ∃ t, run k s = .next t ∧ t.bus = s.bus ∧ t.phase = s.phase ∧ t.draws = s.draws ∧
      t.cnt = s.cnt - ticks ∧ t.trace = s.trace ++ List.replicate ticks .tick

/-- R116, R132, R149: in every state of a run, with no byte arriving, at most two phase starts pass before a hold
begins, so time cannot stand still. -/
def Obligations.TimeAdvancesWithinTwoPhaseStarts : Prop :=
  ∀ s : State, s.Inv → s.launched = true → s.script = [] →
    ∃ k t, k ≤ 2 ∧ run k s = .next t ∧ 0 < t.cnt

/-- R117: on well-formed input `NEG_HOLD` is never drawn, in either profile, at any step of a run. -/
def Obligations.WellFormedInputNeverDraws : Prop :=
  (∀ s t : State, s.WellFormedRun → step s = .next t → t.WellFormedRun ∧ t.draws = s.draws) ∧
  (∀ (s t : State) (k : Nat), s.WellFormedRun → run k s = .next t → t.draws = s.draws)

/-! ### Motor generator -/

/-- R122. -/
def Obligations.OnPhaseStart : Prop :=
  ∀ s : State, s.due .mOn →
    (s.readReg .onDuration = 10 → step s = .next { s with script := s.script.tail, phase := .mOff }) ∧
    (s.readReg .onDuration ≠ 10 → ∃ t, step s = .next t ∧
      t.bus = some (s.readReg .outputLevel + s.readReg .ledMask) ∧
      t.trace = s.trace ++ [.drive (s.readReg .outputLevel + s.readReg .ledMask)] ∧
      t.phase = .mOff ∧
      { t with bus := s.bus, cnt := s.cnt, phase := s.phase, trace := s.trace, draws := s.draws, script := s.script } = s ∧ t.script = s.script.tail ∧
      (0 ≤ s.readReg .onDuration → t.cnt = (s.readReg .onDuration).toNat ∧ t.draws = s.draws) ∧
      (s.readReg .onDuration < 0 →
        t.cnt = Config.negHold s.draws (s.readReg .onDuration) ∧ t.draws = s.draws + 1))

/-- R123, for both settings of `OFF_GUARD`. -/
def Obligations.OffPhaseStart : Prop :=
  ∀ s : State, s.due .mOff →
    let runs := match s.offGuard with
      | .literal => s.readReg .onDuration ≠ 20
      | .corrected => s.readReg .offDuration ≠ 0
    (¬ runs → step s = .next { s with script := s.script.tail, phase := .mOn }) ∧
    (runs → ∃ t, step s = .next t ∧
      t.bus = some (s.readReg .ledMask) ∧ t.trace = s.trace ++ [.drive (s.readReg .ledMask)] ∧
      t.phase = .mOn ∧
      { t with bus := s.bus, cnt := s.cnt, phase := s.phase, trace := s.trace, draws := s.draws, script := s.script } = s ∧ t.script = s.script.tail ∧
      (0 ≤ s.readReg .offDuration → t.cnt = (s.readReg .offDuration).toNat ∧ t.draws = s.draws) ∧
      (s.readReg .offDuration < 0 →
        t.cnt = Config.negHold s.draws (s.readReg .offDuration) ∧ t.draws = s.draws + 1))

/-- R124: the two off-phase guards, which in every state of a run agree, so the off-phase start does the same under
either. -/
def Obligations.OffGuardsAgree : Prop :=
  (∀ on off, (offGuardHolds .literal on off = true ↔ on ≠ 20) ∧ (offGuardHolds .corrected on off = true ↔ off ≠ 0)) ∧
  ∀ s : State, s.Inv → s.profile = .motor →
    offGuardHolds .literal (s.readReg .onDuration) (s.readReg .offDuration) =
      offGuardHolds .corrected (s.readReg .onDuration) (s.readReg .offDuration) ∧
    { s with offGuard := .corrected }.startMOff =
      { { s with offGuard := .literal }.startMOff with offGuard := .corrected }

/-- R127: the values the motor generator drives at a phase start of a run. -/
def Obligations.MotorDriveValues : Prop :=
  ∀ (s t : State) (v : Int), s.Inv → s.profile = .motor → s.launched = true → s.rxByte = none → s.cnt = 0 → step s = .next t →
    t.trace = s.trace ++ [.drive v] →
    (s.phase = .mOn → v = 5 ∨ v = 7 ∨ v = 9 ∨ v = 11) ∧ (s.phase = .mOff → v = 0 ∨ v = 2)

/-- R128: the steady waveform of well-formed registers, for any number of cycles, with no command arriving. -/
def Obligations.SteadyMotorWaveform : Prop :=
  ∀ (s : State) (n : Nat), s.due .mOn → s.script = [] → s.readReg .offDuration = 20 - s.readReg .onDuration →
    let on := s.readReg .onDuration
    let high := s.readReg .outputLevel + s.readReg .ledMask
    let low := s.readReg .ledMask
    (11 ≤ on ∧ on ≤ 19 → run (n * 22) s = .next { s with
      bus := if n = 0 then s.bus else some low
      trace := s.trace ++ cycles n (phaseTrace high on.toNat ++ phaseTrace low (20 - on).toNat) }) ∧
    (on = 20 → run (n * 22) s = .next { s with
      bus := if n = 0 then s.bus else some high
      trace := s.trace ++ cycles n (phaseTrace high 20) }) ∧
    (on = 10 → run (n * 12) s = .next { s with
      bus := if n = 0 then s.bus else some low
      trace := s.trace ++ cycles n (phaseTrace low 10) })

/-- R134. -/
def Obligations.EndToEndCycle : Prop :=
  ∀ s : State, s.due .mOn → s.script = [] → s.readReg .ledMask = 0 → s.readReg .outputLevel = 5 →
    s.readReg .onDuration = 16 → s.readReg .offDuration = 4 →
    ∃ t, run 22 s = .next t ∧
      t.trace = s.trace ++ [Event.drive 5] ++ List.replicate 16 Event.tick ++ [Event.drive 0] ++ List.replicate 4 Event.tick

/-- Derived from R132, which asks for equal registers at the two phase starts only: from the start of an on-phase to any
later end of an off-phase, while every state on the way has the same two durations, at least 10 ticks pass, and at least
20 when a duration is negative, whatever the draws and whatever other bytes arrive; and with a silent host the on-phase
does come due again, with the same registers. -/
def Obligations.UndisturbedCycleTakesTenTicks : Prop :=
  ∀ s : State, s.Inv → s.due .mOn →
    (∀ (k : Nat) (t : State), 0 < k →
      (∀ i u, i < k → run i s = .next u →
        u.readReg .onDuration = s.readReg .onDuration ∧ u.readReg .offDuration = s.readReg .offDuration) →
      run k s = .next t → t.phase = .mOn → t.cnt = 0 →
      s.ticks + 10 ≤ t.ticks ∧
      (s.readReg .onDuration < 0 ∨ s.readReg .offDuration < 0 → s.ticks + 20 ≤ t.ticks)) ∧
    (s.script = [] → ∃ (n : Nat) (t : State), s.waited n t ∧ 10 ≤ n ∧ t.phase = .mOn ∧ t.cnt = 0 ∧ t.rf = s.rf)

/-- R131: a `REVERSE` or `FORWARD` byte, any of them, that arrives between the `M_ON` start and the `M_OFF` start, at
any point of the on-phase's hold or at its end. First, from any such state: the rest of the hold is kept, and the
off-phase then follows the new `onDuration` (guard) and the new `offDuration`: skipped at 20, after which the next
on-phase holds 20; else driven for `offDuration` ticks, or for the next draw if that is negative. Second, the whole
cycle from its `M_ON` start: the on-phase's hold is that of the old `onDuration`, so the cycle lasts that and the new
`offDuration`, which need not be 20 ticks together. -/
def Obligations.TransitionalCycles : Prop :=
  ∀ (b : Byte) (j : Nat), b.toNat < 128 →
    let on := if 64 ≤ b.toNat then byteVal b - 54 else byteVal b - 22
    let level : Int := if 64 ≤ b.toNat then 5 else 9
    (∀ s : State, s.profile = .motor → s.launched = true → s.phase = .mOff → j ≤ s.cnt →
      s.script = List.replicate j Slot.idle ++ [Slot.byte b] →
      (on = 20 → ∃ t u, run (s.cnt + 2) s = .next t ∧ t.phase = .mOn ∧ t.cnt = 0 ∧ t.bus = s.bus ∧
        t.trace = s.trace ++ List.replicate s.cnt Event.tick ∧
        step t = .next u ∧ u.cnt = 20 ∧ u.bus = some (level + s.readReg .ledMask)) ∧
      (on < 20 → ∃ t, run (s.cnt + 2 + (20 - on).toNat) s = .next t ∧ t.phase = .mOn ∧ t.cnt = 0 ∧
        t.bus = some (s.readReg .ledMask) ∧
        t.trace = s.trace ++ List.replicate s.cnt Event.tick ++ phaseTrace (s.readReg .ledMask) (20 - on).toNat) ∧
      (20 < on → ∃ t, run (s.cnt + 2) s = .next t ∧ t.phase = .mOn ∧ t.cnt = Config.negHold s.draws (20 - on) ∧
        t.bus = some (s.readReg .ledMask) ∧
        t.trace = s.trace ++ List.replicate s.cnt Event.tick ++ [Event.drive (s.readReg .ledMask)])) ∧
    (∀ s : State, s.profile = .motor → s.launched = true → s.phase = .mOn → s.cnt = 0 →
      s.script = Slot.idle :: (List.replicate j Slot.idle ++ [Slot.byte b]) →
      let old := s.readReg .onDuration
      let hold := if old = 10 then 0 else if 0 ≤ old then old.toNat else Config.negHold s.draws old
      j ≤ hold →
      (on ≤ 20 → ∃ t, run (hold + 3 + (20 - on).toNat) s = .next t ∧ t.phase = .mOn ∧ t.cnt = 0 ∧
        t.ticks = s.ticks + hold + (20 - on).toNat ∧ t.readReg .onDuration = on ∧ t.readReg .offDuration = 20 - on) ∧
      (20 < on → ∃ t, run (hold + 3) s = .next t ∧ t.phase = .mOn ∧ t.ticks = s.ticks + hold ∧
        t.cnt = Config.negHold (if old < 0 then s.draws + 1 else s.draws) (20 - on) ∧
        t.readReg .onDuration = on ∧ t.readReg .offDuration = 20 - on))

/-- R130, bounded: with well-formed registers and no byte arriving, the next start of `M_ON`, at which a new
`onDuration` or `outputLevel` takes effect, comes after at most the rest of the hold and one off-phase. -/
def Obligations.CommandTakesEffectWithinACycle : Prop :=
  ∀ s : State, s.profile = .motor → s.launched = true → s.script = [] → Phase.fits .motor s.phase = true →
    s.rf.WellFormedFor .motor →
    ∃ (n : Nat) (t : State), s.waited n t ∧ t.due .mOn ∧ t.rf = s.rf ∧ n ≤ s.cnt + (s.readReg .offDuration).toNat

/-- R97: every direction command leaves the sum 20, reset has it and every step keeps it. -/
def Obligations.DutySumIsTwenty : Prop :=
  (∀ (b : Byte) (s t : State), b.toNat < 128 → exec (decode .motor b) s = .next t →
    t.readReg .onDuration + t.readReg .offDuration = 20) ∧
  (∀ p g, (State.resetFor p g).readReg .onDuration + (State.resetFor p g).readReg .offDuration = 20) ∧
  (∀ s t : State, s.readReg .onDuration + s.readReg .offDuration = 20 → step s = .next t →
    t.readReg .onDuration + t.readReg .offDuration = 20)

/-- R24, R202: a step never brings `outputLevel` back to 0. -/
def Obligations.OutputLevelNeverIdleAgain : Prop :=
  ∀ s t : State, step s = .next t → s.readReg .outputLevel ≠ 0 → t.readReg .outputLevel ≠ 0

/-! ### Servo generator -/

/-- R142. -/
def Obligations.XPhaseStart : Prop :=
  ∀ s : State, s.due .sX → ∃ t, step s = .next t ∧ t.bus = some (selectLevel Config.xSel) ∧
    t.trace = s.trace ++ [Event.drive (selectLevel Config.xSel)] ∧ t.phase = .sY ∧
    { t with bus := s.bus, cnt := s.cnt, phase := s.phase, trace := s.trace, draws := s.draws, script := s.script } = s ∧ t.script = s.script.tail ∧
    (0 ≤ s.readReg .xPulseCount → t.cnt = 55 + 18 * (s.readReg .xPulseCount).toNat ∧ t.draws = s.draws) ∧
    (s.readReg .xPulseCount < 0 →
        t.cnt = 55 + Config.negHold s.draws (s.readReg .xPulseCount) ∧ t.draws = s.draws + 1)

/-- R143. -/
def Obligations.YPhaseStart : Prop :=
  ∀ s : State, s.due .sY → ∃ t, step s = .next t ∧ t.bus = some (selectLevel Config.ySel) ∧
    t.trace = s.trace ++ [Event.drive (selectLevel Config.ySel)] ∧ t.phase = .sIdle ∧
    { t with bus := s.bus, cnt := s.cnt, phase := s.phase, trace := s.trace, draws := s.draws, script := s.script } = s ∧ t.script = s.script.tail ∧
    (0 ≤ s.readReg .yPulseCount → t.cnt = 55 + 18 * (s.readReg .yPulseCount).toNat ∧ t.draws = s.draws) ∧
    (s.readReg .yPulseCount < 0 →
        t.cnt = 55 + Config.negHold s.draws (s.readReg .yPulseCount) ∧ t.draws = s.draws + 1)

/-- R144. -/
def Obligations.IdlePhaseStart : Prop :=
  ∀ s : State, s.due .sIdle → step s = .next { s with
    script := s.script.tail
    bus := some (selectLevel Config.idleSel)
    trace := s.trace ++ [Event.drive (selectLevel Config.idleSel)]
    cnt := 1000
    phase := .sX }

/-- R149. -/
def Obligations.ServoPhaseLoadsAtLeastFiftyFive : Prop :=
  ∀ s t : State, s.launched = true → s.rxByte = none → s.cnt = 0 → Phase.fits .servo s.phase = true →
    step s = .next t → 55 ≤ t.cnt

/-- Derived from R148 and R140, for a host that sends no byte: a frame of non-negative counts, its trace, and its period
in base ticks and in microseconds, for any number of frames. -/
def Obligations.ServoFrame : Prop :=
  ∀ (s : State) (x y n : Nat), s.due .sX → s.profile = .servo → s.script = [] → s.readReg .xPulseCount = x →
    s.readReg .yPulseCount = y →
    ∃ t, run (n * (1113 + 18 * (x + y))) s = .next t ∧
      t = { s with
        bus := if n = 0 then s.bus else some (selectLevel Config.idleSel)
        trace := s.trace ++ cycles n (phaseTrace (selectLevel Config.xSel) (55 + 18 * x) ++
          phaseTrace (selectLevel Config.ySel) (55 + 18 * y) ++ phaseTrace (selectLevel Config.idleSel) 1000) } ∧
      t.micros = s.micros + n * (11100 + 180 * (x + y))

/-! ### Invariants -/

/-- The invariant holds at reset and at launch, in both profiles. -/
def Obligations.InvariantHoldsAtReset : Prop :=
  ∀ p g l, ((State.resetFor p g).withScript l).Inv ∧ ((State.launchFor p g).withScript l).Inv

/-- R95, R104, R28, R31, R33, R39, R192: every step keeps the invariant. -/
def Obligations.InvariantKeptByEveryStep : Prop :=
  ∀ s t : State, s.Inv → step s = .next t → t.Inv

/-- R33, R35: in every state of a run the pins carry the bus value itself once the output is enabled, and nothing
before. -/
def Obligations.PinsCarryTheBusValue : Prop :=
  ∀ s : State, s.Inv →
    (s.busOutEn = false → s.busOut = none) ∧
    (∀ v, s.busOutEn = true → s.bus = some v → ∃ p, s.busOut = some p ∧ (p.toNat : Int) = v)
end

