-- ==== Sys2Proof/Laws/State.lean ====
section
/-! SUPPORT. What each named update leaves in each field of the state and of the register file. -/

namespace Sys2Proof.Machine

variable (s : State) (rf : RegFile)

@[simp] theorem State.writeReg_profile (n : RegName) (v : Int) : (s.writeReg n v).profile = s.profile := rfl
@[simp] theorem State.writeReg_offGuard (n : RegName) (v : Int) : (s.writeReg n v).offGuard = s.offGuard := rfl
@[simp] theorem State.writeReg_rf (n : RegName) (v : Int) : (s.writeReg n v).rf = s.rf.write n (regOf v) := rfl
@[simp] theorem State.writeReg_phase (n : RegName) (v : Int) : (s.writeReg n v).phase = s.phase := rfl
@[simp] theorem State.writeReg_cnt (n : RegName) (v : Int) : (s.writeReg n v).cnt = s.cnt := rfl
@[simp] theorem State.writeReg_bus (n : RegName) (v : Int) : (s.writeReg n v).bus = s.bus := rfl
@[simp] theorem State.writeReg_busOutEn (n : RegName) (v : Int) : (s.writeReg n v).busOutEn = s.busOutEn := rfl
@[simp] theorem State.writeReg_rxIe (n : RegName) (v : Int) : (s.writeReg n v).rxIe = s.rxIe := rfl
@[simp] theorem State.writeReg_gIe (n : RegName) (v : Int) : (s.writeReg n v).gIe = s.gIe := rfl
@[simp] theorem State.writeReg_trace (n : RegName) (v : Int) : (s.writeReg n v).trace = s.trace := rfl
@[simp] theorem State.writeReg_draws (n : RegName) (v : Int) : (s.writeReg n v).draws = s.draws := rfl
@[simp] theorem State.writeReg_script (n : RegName) (v : Int) : (s.writeReg n v).script = s.script := rfl

@[simp] theorem State.busWrite_profile (v : Int) : (s.busWrite v).profile = s.profile := rfl
@[simp] theorem State.busWrite_offGuard (v : Int) : (s.busWrite v).offGuard = s.offGuard := rfl
@[simp] theorem State.busWrite_rf (v : Int) : (s.busWrite v).rf = s.rf := rfl
@[simp] theorem State.busWrite_phase (v : Int) : (s.busWrite v).phase = s.phase := rfl
@[simp] theorem State.busWrite_cnt (v : Int) : (s.busWrite v).cnt = s.cnt := rfl
@[simp] theorem State.busWrite_bus (v : Int) : (s.busWrite v).bus = some v := rfl
@[simp] theorem State.busWrite_busOutEn (v : Int) : (s.busWrite v).busOutEn = s.busOutEn := rfl
@[simp] theorem State.busWrite_rxIe (v : Int) : (s.busWrite v).rxIe = s.rxIe := rfl
@[simp] theorem State.busWrite_gIe (v : Int) : (s.busWrite v).gIe = s.gIe := rfl
@[simp] theorem State.busWrite_trace (v : Int) : (s.busWrite v).trace = s.trace ++ [.drive v] := rfl
@[simp] theorem State.busWrite_draws (v : Int) : (s.busWrite v).draws = s.draws := rfl
@[simp] theorem State.busWrite_script (v : Int) : (s.busWrite v).script = s.script := rfl

@[simp] theorem State.setPhase_profile (p : Phase) : (s.setPhase p).profile = s.profile := rfl
@[simp] theorem State.setPhase_offGuard (p : Phase) : (s.setPhase p).offGuard = s.offGuard := rfl
@[simp] theorem State.setPhase_rf (p : Phase) : (s.setPhase p).rf = s.rf := rfl
@[simp] theorem State.setPhase_phase (p : Phase) : (s.setPhase p).phase = p := rfl
@[simp] theorem State.setPhase_cnt (p : Phase) : (s.setPhase p).cnt = s.cnt := rfl
@[simp] theorem State.setPhase_bus (p : Phase) : (s.setPhase p).bus = s.bus := rfl
@[simp] theorem State.setPhase_busOutEn (p : Phase) : (s.setPhase p).busOutEn = s.busOutEn := rfl
@[simp] theorem State.setPhase_rxIe (p : Phase) : (s.setPhase p).rxIe = s.rxIe := rfl
@[simp] theorem State.setPhase_gIe (p : Phase) : (s.setPhase p).gIe = s.gIe := rfl
@[simp] theorem State.setPhase_trace (p : Phase) : (s.setPhase p).trace = s.trace := rfl
@[simp] theorem State.setPhase_draws (p : Phase) : (s.setPhase p).draws = s.draws := rfl
@[simp] theorem State.setPhase_script (p : Phase) : (s.setPhase p).script = s.script := rfl

@[simp] theorem State.useDraw_profile (n : Int) : (s.useDraw n).profile = s.profile := by
  unfold State.useDraw; split <;> rfl
@[simp] theorem State.useDraw_offGuard (n : Int) : (s.useDraw n).offGuard = s.offGuard := by
  unfold State.useDraw; split <;> rfl
@[simp] theorem State.useDraw_rf (n : Int) : (s.useDraw n).rf = s.rf := by
  unfold State.useDraw; split <;> rfl
@[simp] theorem State.useDraw_phase (n : Int) : (s.useDraw n).phase = s.phase := by
  unfold State.useDraw; split <;> rfl
@[simp] theorem State.useDraw_cnt (n : Int) : (s.useDraw n).cnt = s.cnt := by
  unfold State.useDraw; split <;> rfl
@[simp] theorem State.useDraw_bus (n : Int) : (s.useDraw n).bus = s.bus := by
  unfold State.useDraw; split <;> rfl
@[simp] theorem State.useDraw_busOutEn (n : Int) : (s.useDraw n).busOutEn = s.busOutEn := by
  unfold State.useDraw; split <;> rfl
@[simp] theorem State.useDraw_rxIe (n : Int) : (s.useDraw n).rxIe = s.rxIe := by
  unfold State.useDraw; split <;> rfl
@[simp] theorem State.useDraw_gIe (n : Int) : (s.useDraw n).gIe = s.gIe := by
  unfold State.useDraw; split <;> rfl
@[simp] theorem State.useDraw_trace (n : Int) : (s.useDraw n).trace = s.trace := by
  unfold State.useDraw; split <;> rfl
@[simp] theorem State.useDraw_draws (n : Int) : (s.useDraw n).draws = if n < 0 then s.draws + 1 else s.draws := by
  unfold State.useDraw; split <;> rfl
@[simp] theorem State.useDraw_script (n : Int) : (s.useDraw n).script = s.script := by
  unfold State.useDraw; split <;> rfl

@[simp] theorem State.loadHold_profile (base scale : Nat) (n : Int) : (s.loadHold base scale n).profile = s.profile := s.useDraw_profile n
@[simp] theorem State.loadHold_offGuard (base scale : Nat) (n : Int) : (s.loadHold base scale n).offGuard = s.offGuard := s.useDraw_offGuard n
@[simp] theorem State.loadHold_rf (base scale : Nat) (n : Int) : (s.loadHold base scale n).rf = s.rf := s.useDraw_rf n
@[simp] theorem State.loadHold_phase (base scale : Nat) (n : Int) : (s.loadHold base scale n).phase = s.phase := s.useDraw_phase n
@[simp] theorem State.loadHold_cnt (base scale : Nat) (n : Int) : (s.loadHold base scale n).cnt = base + s.holdTicks scale n := rfl
@[simp] theorem State.loadHold_bus (base scale : Nat) (n : Int) : (s.loadHold base scale n).bus = s.bus := s.useDraw_bus n
@[simp] theorem State.loadHold_busOutEn (base scale : Nat) (n : Int) : (s.loadHold base scale n).busOutEn = s.busOutEn := s.useDraw_busOutEn n
@[simp] theorem State.loadHold_rxIe (base scale : Nat) (n : Int) : (s.loadHold base scale n).rxIe = s.rxIe := s.useDraw_rxIe n
@[simp] theorem State.loadHold_gIe (base scale : Nat) (n : Int) : (s.loadHold base scale n).gIe = s.gIe := s.useDraw_gIe n
@[simp] theorem State.loadHold_trace (base scale : Nat) (n : Int) : (s.loadHold base scale n).trace = s.trace := s.useDraw_trace n
@[simp] theorem State.loadHold_draws (base scale : Nat) (n : Int) : (s.loadHold base scale n).draws = if n < 0 then s.draws + 1 else s.draws := s.useDraw_draws n
@[simp] theorem State.loadHold_script (base scale : Nat) (n : Int) : (s.loadHold base scale n).script = s.script := s.useDraw_script n

@[simp] theorem State.tick_profile : (s.tick).profile = s.profile := rfl
@[simp] theorem State.tick_offGuard : (s.tick).offGuard = s.offGuard := rfl
@[simp] theorem State.tick_rf : (s.tick).rf = s.rf := rfl
@[simp] theorem State.tick_phase : (s.tick).phase = s.phase := rfl
@[simp] theorem State.tick_cnt : (s.tick).cnt = s.cnt - 1 := rfl
@[simp] theorem State.tick_bus : (s.tick).bus = s.bus := rfl
@[simp] theorem State.tick_busOutEn : (s.tick).busOutEn = s.busOutEn := rfl
@[simp] theorem State.tick_rxIe : (s.tick).rxIe = s.rxIe := rfl
@[simp] theorem State.tick_gIe : (s.tick).gIe = s.gIe := rfl
@[simp] theorem State.tick_trace : (s.tick).trace = s.trace ++ [.tick] := rfl
@[simp] theorem State.tick_draws : (s.tick).draws = s.draws := rfl
@[simp] theorem State.tick_script : (s.tick).script = s.script := rfl

@[simp] theorem State.configureOutputBus_profile : (s.configureOutputBus).profile = s.profile := rfl
@[simp] theorem State.configureOutputBus_offGuard : (s.configureOutputBus).offGuard = s.offGuard := rfl
@[simp] theorem State.configureOutputBus_rf : (s.configureOutputBus).rf = s.rf := rfl
@[simp] theorem State.configureOutputBus_phase : (s.configureOutputBus).phase = s.phase := rfl
@[simp] theorem State.configureOutputBus_cnt : (s.configureOutputBus).cnt = s.cnt := rfl
@[simp] theorem State.configureOutputBus_bus : (s.configureOutputBus).bus = s.bus := rfl
@[simp] theorem State.configureOutputBus_busOutEn : (s.configureOutputBus).busOutEn = true := rfl
@[simp] theorem State.configureOutputBus_rxIe : (s.configureOutputBus).rxIe = s.rxIe := rfl
@[simp] theorem State.configureOutputBus_gIe : (s.configureOutputBus).gIe = s.gIe := rfl
@[simp] theorem State.configureOutputBus_trace : (s.configureOutputBus).trace = s.trace := rfl
@[simp] theorem State.configureOutputBus_draws : (s.configureOutputBus).draws = s.draws := rfl
@[simp] theorem State.configureOutputBus_script : (s.configureOutputBus).script = s.script := rfl

@[simp] theorem State.enableSerialReceive_profile : (s.enableSerialReceive).profile = s.profile := rfl
@[simp] theorem State.enableSerialReceive_offGuard : (s.enableSerialReceive).offGuard = s.offGuard := rfl
@[simp] theorem State.enableSerialReceive_rf : (s.enableSerialReceive).rf = s.rf := rfl
@[simp] theorem State.enableSerialReceive_phase : (s.enableSerialReceive).phase = s.phase := rfl
@[simp] theorem State.enableSerialReceive_cnt : (s.enableSerialReceive).cnt = s.cnt := rfl
@[simp] theorem State.enableSerialReceive_bus : (s.enableSerialReceive).bus = s.bus := rfl
@[simp] theorem State.enableSerialReceive_busOutEn : (s.enableSerialReceive).busOutEn = s.busOutEn := rfl
@[simp] theorem State.enableSerialReceive_rxIe : (s.enableSerialReceive).rxIe = true := rfl
@[simp] theorem State.enableSerialReceive_gIe : (s.enableSerialReceive).gIe = s.gIe := rfl
@[simp] theorem State.enableSerialReceive_trace : (s.enableSerialReceive).trace = s.trace := rfl
@[simp] theorem State.enableSerialReceive_draws : (s.enableSerialReceive).draws = s.draws := rfl
@[simp] theorem State.enableSerialReceive_script : (s.enableSerialReceive).script = s.script := rfl

@[simp] theorem State.enableGlobal_profile : (s.enableGlobal).profile = s.profile := rfl
@[simp] theorem State.enableGlobal_offGuard : (s.enableGlobal).offGuard = s.offGuard := rfl
@[simp] theorem State.enableGlobal_rf : (s.enableGlobal).rf = s.rf := rfl
@[simp] theorem State.enableGlobal_phase : (s.enableGlobal).phase = s.phase := rfl
@[simp] theorem State.enableGlobal_cnt : (s.enableGlobal).cnt = s.cnt := rfl
@[simp] theorem State.enableGlobal_bus : (s.enableGlobal).bus = s.bus := rfl
@[simp] theorem State.enableGlobal_busOutEn : (s.enableGlobal).busOutEn = s.busOutEn := rfl
@[simp] theorem State.enableGlobal_rxIe : (s.enableGlobal).rxIe = s.rxIe := rfl
@[simp] theorem State.enableGlobal_gIe : (s.enableGlobal).gIe = true := rfl
@[simp] theorem State.enableGlobal_trace : (s.enableGlobal).trace = s.trace := rfl
@[simp] theorem State.enableGlobal_draws : (s.enableGlobal).draws = s.draws := rfl
@[simp] theorem State.enableGlobal_script : (s.enableGlobal).script = s.script := rfl

@[simp] theorem State.takeSlot_profile : (s.takeSlot).profile = s.profile := rfl
@[simp] theorem State.takeSlot_offGuard : (s.takeSlot).offGuard = s.offGuard := rfl
@[simp] theorem State.takeSlot_rf : (s.takeSlot).rf = s.rf := rfl
@[simp] theorem State.takeSlot_phase : (s.takeSlot).phase = s.phase := rfl
@[simp] theorem State.takeSlot_cnt : (s.takeSlot).cnt = s.cnt := rfl
@[simp] theorem State.takeSlot_bus : (s.takeSlot).bus = s.bus := rfl
@[simp] theorem State.takeSlot_busOutEn : (s.takeSlot).busOutEn = s.busOutEn := rfl
@[simp] theorem State.takeSlot_rxIe : (s.takeSlot).rxIe = s.rxIe := rfl
@[simp] theorem State.takeSlot_gIe : (s.takeSlot).gIe = s.gIe := rfl
@[simp] theorem State.takeSlot_trace : (s.takeSlot).trace = s.trace := rfl
@[simp] theorem State.takeSlot_draws : (s.takeSlot).draws = s.draws := rfl
@[simp] theorem State.takeSlot_script : (s.takeSlot).script = s.script.tail := rfl

@[simp] theorem State.presentWord_profile (l : List Byte) : (s.presentWord l).profile = s.profile := rfl
@[simp] theorem State.presentWord_offGuard (l : List Byte) : (s.presentWord l).offGuard = s.offGuard := rfl
@[simp] theorem State.presentWord_rf (l : List Byte) : (s.presentWord l).rf = s.rf := rfl
@[simp] theorem State.presentWord_phase (l : List Byte) : (s.presentWord l).phase = s.phase := rfl
@[simp] theorem State.presentWord_cnt (l : List Byte) : (s.presentWord l).cnt = s.cnt := rfl
@[simp] theorem State.presentWord_bus (l : List Byte) : (s.presentWord l).bus = s.bus := rfl
@[simp] theorem State.presentWord_busOutEn (l : List Byte) : (s.presentWord l).busOutEn = true := rfl
@[simp] theorem State.presentWord_rxIe (l : List Byte) : (s.presentWord l).rxIe = true := rfl
@[simp] theorem State.presentWord_gIe (l : List Byte) : (s.presentWord l).gIe = true := rfl
@[simp] theorem State.presentWord_trace (l : List Byte) : (s.presentWord l).trace = s.trace := rfl
@[simp] theorem State.presentWord_draws (l : List Byte) : (s.presentWord l).draws = s.draws := rfl
@[simp] theorem State.presentWord_script (l : List Byte) : (s.presentWord l).script = l.map Slot.byte ++ s.script := rfl

@[simp] theorem RegFile.write_onDuration_onDuration (v : Reg) : (rf.write .onDuration v).onDuration = v := rfl
@[simp] theorem RegFile.write_onDuration_offDuration (v : Reg) : (rf.write .onDuration v).offDuration = rf.offDuration := rfl
@[simp] theorem RegFile.write_onDuration_outputLevel (v : Reg) : (rf.write .onDuration v).outputLevel = rf.outputLevel := rfl
@[simp] theorem RegFile.write_onDuration_ledMask (v : Reg) : (rf.write .onDuration v).ledMask = rf.ledMask := rfl
@[simp] theorem RegFile.write_onDuration_xPulseCount (v : Reg) : (rf.write .onDuration v).xPulseCount = rf.xPulseCount := rfl
@[simp] theorem RegFile.write_onDuration_yPulseCount (v : Reg) : (rf.write .onDuration v).yPulseCount = rf.yPulseCount := rfl
@[simp] theorem RegFile.read_onDuration : rf.read .onDuration = rf.onDuration := rfl

@[simp] theorem RegFile.write_offDuration_onDuration (v : Reg) : (rf.write .offDuration v).onDuration = rf.onDuration := rfl
@[simp] theorem RegFile.write_offDuration_offDuration (v : Reg) : (rf.write .offDuration v).offDuration = v := rfl
@[simp] theorem RegFile.write_offDuration_outputLevel (v : Reg) : (rf.write .offDuration v).outputLevel = rf.outputLevel := rfl
@[simp] theorem RegFile.write_offDuration_ledMask (v : Reg) : (rf.write .offDuration v).ledMask = rf.ledMask := rfl
@[simp] theorem RegFile.write_offDuration_xPulseCount (v : Reg) : (rf.write .offDuration v).xPulseCount = rf.xPulseCount := rfl
@[simp] theorem RegFile.write_offDuration_yPulseCount (v : Reg) : (rf.write .offDuration v).yPulseCount = rf.yPulseCount := rfl
@[simp] theorem RegFile.read_offDuration : rf.read .offDuration = rf.offDuration := rfl

@[simp] theorem RegFile.write_outputLevel_onDuration (v : Reg) : (rf.write .outputLevel v).onDuration = rf.onDuration := rfl
@[simp] theorem RegFile.write_outputLevel_offDuration (v : Reg) : (rf.write .outputLevel v).offDuration = rf.offDuration := rfl
@[simp] theorem RegFile.write_outputLevel_outputLevel (v : Reg) : (rf.write .outputLevel v).outputLevel = v := rfl
@[simp] theorem RegFile.write_outputLevel_ledMask (v : Reg) : (rf.write .outputLevel v).ledMask = rf.ledMask := rfl
@[simp] theorem RegFile.write_outputLevel_xPulseCount (v : Reg) : (rf.write .outputLevel v).xPulseCount = rf.xPulseCount := rfl
@[simp] theorem RegFile.write_outputLevel_yPulseCount (v : Reg) : (rf.write .outputLevel v).yPulseCount = rf.yPulseCount := rfl
@[simp] theorem RegFile.read_outputLevel : rf.read .outputLevel = rf.outputLevel := rfl

@[simp] theorem RegFile.write_ledMask_onDuration (v : Reg) : (rf.write .ledMask v).onDuration = rf.onDuration := rfl
@[simp] theorem RegFile.write_ledMask_offDuration (v : Reg) : (rf.write .ledMask v).offDuration = rf.offDuration := rfl
@[simp] theorem RegFile.write_ledMask_outputLevel (v : Reg) : (rf.write .ledMask v).outputLevel = rf.outputLevel := rfl
@[simp] theorem RegFile.write_ledMask_ledMask (v : Reg) : (rf.write .ledMask v).ledMask = v := rfl
@[simp] theorem RegFile.write_ledMask_xPulseCount (v : Reg) : (rf.write .ledMask v).xPulseCount = rf.xPulseCount := rfl
@[simp] theorem RegFile.write_ledMask_yPulseCount (v : Reg) : (rf.write .ledMask v).yPulseCount = rf.yPulseCount := rfl
@[simp] theorem RegFile.read_ledMask : rf.read .ledMask = rf.ledMask := rfl

@[simp] theorem RegFile.write_xPulseCount_onDuration (v : Reg) : (rf.write .xPulseCount v).onDuration = rf.onDuration := rfl
@[simp] theorem RegFile.write_xPulseCount_offDuration (v : Reg) : (rf.write .xPulseCount v).offDuration = rf.offDuration := rfl
@[simp] theorem RegFile.write_xPulseCount_outputLevel (v : Reg) : (rf.write .xPulseCount v).outputLevel = rf.outputLevel := rfl
@[simp] theorem RegFile.write_xPulseCount_ledMask (v : Reg) : (rf.write .xPulseCount v).ledMask = rf.ledMask := rfl
@[simp] theorem RegFile.write_xPulseCount_xPulseCount (v : Reg) : (rf.write .xPulseCount v).xPulseCount = v := rfl
@[simp] theorem RegFile.write_xPulseCount_yPulseCount (v : Reg) : (rf.write .xPulseCount v).yPulseCount = rf.yPulseCount := rfl
@[simp] theorem RegFile.read_xPulseCount : rf.read .xPulseCount = rf.xPulseCount := rfl

@[simp] theorem RegFile.write_yPulseCount_onDuration (v : Reg) : (rf.write .yPulseCount v).onDuration = rf.onDuration := rfl
@[simp] theorem RegFile.write_yPulseCount_offDuration (v : Reg) : (rf.write .yPulseCount v).offDuration = rf.offDuration := rfl
@[simp] theorem RegFile.write_yPulseCount_outputLevel (v : Reg) : (rf.write .yPulseCount v).outputLevel = rf.outputLevel := rfl
@[simp] theorem RegFile.write_yPulseCount_ledMask (v : Reg) : (rf.write .yPulseCount v).ledMask = rf.ledMask := rfl
@[simp] theorem RegFile.write_yPulseCount_xPulseCount (v : Reg) : (rf.write .yPulseCount v).xPulseCount = rf.xPulseCount := rfl
@[simp] theorem RegFile.write_yPulseCount_yPulseCount (v : Reg) : (rf.write .yPulseCount v).yPulseCount = v := rfl
@[simp] theorem RegFile.read_yPulseCount : rf.read .yPulseCount = rf.yPulseCount := rfl

end Sys2Proof.Machine
end

