-- ==== Sys2Proof/Laws/Ops.lean ====
section
/-! SUPPORT. One lemma for each shared operation: registers, holds, phase starts, initialisation calls. -/

namespace Sys2Proof.Machine

/-- No value a rule writes leaves the range of a register (R94, R104). -/
theorem regVal_regOf {v : Int} (h₁ : -32768 ≤ v) (h₂ : v < 32768) : regVal (regOf v) = v := by
  simp only [regVal, regOf, BitVec.toInt_ofInt, Int.bmod_def, Params.regW]
  omega

theorem RegFile.read_write_same (rf : RegFile) (n : RegName) (v : Reg) : (rf.write n v).read n = v := by
  cases n <;> rfl

theorem RegFile.read_write_ne (rf : RegFile) {n k : RegName} (v : Reg) (h : k ≠ n) :
    (rf.write n v).read k = rf.read k := by
  cases n <;> cases k <;> first | rfl | exact absurd rfl h

theorem State.readReg_writeReg_same (s : State) (n : RegName) {v : Int} (h₁ : -32768 ≤ v) (h₂ : v < 32768) :
    (s.writeReg n v).readReg n = v := by
  rw [State.readReg, State.writeReg_rf, RegFile.read_write_same, regVal_regOf h₁ h₂]

theorem State.readReg_writeReg_ne (s : State) {n k : RegName} (v : Int) (h : k ≠ n) :
    (s.writeReg n v).readReg k = s.readReg k := by
  rw [State.readReg, State.writeReg_rf, RegFile.read_write_ne _ _ h, State.readReg]

/-- `REVERSE` and `FORWARD`'s shared write, as one update of the register file. -/
theorem State.setDuty_eq (s : State) (level m : Int) :
    s.setDuty level m = { s with rf := { s.rf with
      outputLevel := regOf level, onDuration := regOf (m + 10), offDuration := regOf (20 - (m + 10)) } } := rfl

theorem State.setCount_x (s : State) (m : Int) :
    s.setCount .xPulseCount m = { s with rf := { s.rf with xPulseCount := regOf (10 - m) } } := rfl

theorem State.setCount_y (s : State) (m : Int) :
    s.setCount .yPulseCount m = { s with rf := { s.rf with yPulseCount := regOf (10 - m) } } := rfl

theorem State.holdTicks_nonneg (s : State) (scale : Nat) {n : Int} (h : 0 ≤ n) :
    s.holdTicks scale n = scale * n.toNat := if_pos h

theorem State.holdTicks_neg (s : State) (scale : Nat) {n : Int} (h : n < 0) :
    s.holdTicks scale n = Config.negHold s.draws n := if_neg (by omega)

/-- Everything a load of a non-negative count does (R112, R117). -/
theorem State.loadHold_nonneg (s : State) (base scale : Nat) {n : Int} (h : 0 ≤ n) :
    s.loadHold base scale n = { s with cnt := base + scale * n.toNat } := by
  have h' : ¬ n < 0 := by omega
  simp [State.loadHold, State.useDraw, State.holdTicks, h, h']

/-- Everything a load of a negative count does (R114). -/
theorem State.loadHold_neg (s : State) (base scale : Nat) {n : Int} (h : n < 0) :
    s.loadHold base scale n =
      { s with cnt := base + Config.negHold s.draws n, draws := s.draws + 1 } := by
  have h' : ¬ 0 ≤ n := by omega
  simp [State.loadHold, State.useDraw, State.holdTicks, h, h']

/-- Everything the start of `M_ON` does (R122). -/
theorem State.startMOn_eq (s : State) :
    s.startMOn = if s.readReg .onDuration = 10 then { s with phase := .mOff } else
      { s with
        bus := some (s.readReg .outputLevel + s.readReg .ledMask)
        trace := s.trace ++ [.drive (s.readReg .outputLevel + s.readReg .ledMask)]
        cnt := s.holdTicks 1 (s.readReg .onDuration)
        draws := if s.readReg .onDuration < 0 then s.draws + 1 else s.draws
        phase := .mOff } := by
  unfold State.startMOn onGuard State.load State.loadHold State.useDraw State.busWrite State.setPhase
    State.holdTicks
  by_cases h : s.readReg .onDuration = 10 <;> by_cases h' : s.readReg .onDuration < 0 <;> simp [h, h']

/-- Everything the start of `M_OFF` does (R123). -/
theorem State.startMOff_eq (s : State) :
    s.startMOff = if offGuardHolds s.offGuard (s.readReg .onDuration) (s.readReg .offDuration) then
      { s with
        bus := some (s.readReg .ledMask)
        trace := s.trace ++ [.drive (s.readReg .ledMask)]
        cnt := s.holdTicks 1 (s.readReg .offDuration)
        draws := if s.readReg .offDuration < 0 then s.draws + 1 else s.draws
        phase := .mOn }
      else { s with phase := .mOn } := by
  unfold State.startMOff State.load State.loadHold State.useDraw State.busWrite State.setPhase
    State.holdTicks
  by_cases h : offGuardHolds s.offGuard (s.readReg .onDuration) (s.readReg .offDuration) = true <;>
    by_cases h' : s.readReg .offDuration < 0 <;> simp [h, h']

/-- Everything a phase that drives `v` and waits the buffer plus the count `c` does (R142, R143). -/
theorem State.pulsePhase_eq (s : State) (v c : Int) (p : Phase) :
    ((s.busWrite v).loadPulse c).setPhase p =
      { s with
        bus := some v
        trace := s.trace ++ [.drive v]
        cnt := 55 + s.holdTicks 18 c
        draws := if c < 0 then s.draws + 1 else s.draws
        phase := p } := by
  unfold State.loadPulse State.loadHold State.useDraw State.busWrite State.setPhase State.holdTicks
  by_cases h' : c < 0 <;> simp [h']

/-- Everything the start of `S_IDLE` does (R144). -/
theorem State.startSIdle_eq (s : State) :
    s.startSIdle =
      { s with
        bus := some (selectLevel Config.idleSel)
        trace := s.trace ++ [.drive (selectLevel Config.idleSel)]
        cnt := 1000
        phase := .sX } := by
  unfold State.startSIdle State.load
  rw [State.loadHold_nonneg _ _ _ (by simp)]
  simp [State.busWrite, State.setPhase]

/-- What an initialisation call can be (R192). -/
theorem State.initCall_cases (s : State) :
    (s.busOutEn = false ∧ s.initCall = { s with busOutEn := true }) ∨
    (s.busOutEn = true ∧ s.rxIe = false ∧ s.initCall = { s with rxIe := true }) ∨
    (s.busOutEn = true ∧ s.rxIe = true ∧ s.initCall = { s with gIe := true }) := by
  unfold State.initCall State.configureOutputBus State.enableSerialReceive State.enableGlobal
  cases s.busOutEn <;> cases s.rxIe <;> simp

/-- A phase start leaves the register file, the configuration, the enables and the script (R11). -/
theorem State.phaseStart_frame (s : State) :
    s.phaseStart.profile = s.profile ∧ s.phaseStart.offGuard = s.offGuard ∧ s.phaseStart.rf = s.rf ∧
    s.phaseStart.busOutEn = s.busOutEn ∧ s.phaseStart.rxIe = s.rxIe ∧ s.phaseStart.gIe = s.gIe ∧
    s.phaseStart.script = s.script := by
  unfold State.phaseStart
  cases s.phase <;> simp only [State.startMOn, State.startMOff, State.startSX, State.startSY, State.startSIdle,
    State.load, State.loadPulse] <;> first | (split <;> simp) | simp

end Sys2Proof.Machine
end

