-- ==== Sys2Proof/Laws/Decode.lean ====
section
/-! SUPPORT. Ranges of a byte's value and of an operand, and which command a band of bytes is. -/

namespace Sys2Proof

open Sys2Proof.Machine

theorem byteVal_range (b : Byte) : 0 ≤ byteVal b ∧ byteVal b ≤ 255 := by
  have := b.isLt
  simp only [byteVal]; omega

theorem byteVal_byteOf {v : Int} (h₁ : 0 ≤ v) (h₂ : v ≤ 255) : byteVal (byteOf v) = v := by
  simp only [byteVal, byteOf, BitVec.toNat_ofInt]; omega

theorem byteOf_byteVal (b : Byte) : byteOf (byteVal b) = b := by
  simp [byteVal, byteOf]

theorem wf_ledToggle {k : Int} : (Instr.ledToggle k).wf = true ↔ 0 ≤ k ∧ k ≤ 127 := by
  simp only [Instr.wf, Bool.and_eq_true, decide_eq_true_eq, Params.baseLed]; omega
theorem wf_reverse {m : Int} : (Instr.reverse m).wf = true ↔ 0 ≤ m ∧ m < 64 := by
  simp only [Instr.wf, Bool.and_eq_true, decide_eq_true_eq, Params.baseLed, Params.baseRev]; omega
theorem wf_forward {m : Int} : (Instr.forward m).wf = true ↔ -32 ≤ m ∧ m < 32 := by
  simp only [Instr.wf, Bool.and_eq_true, decide_eq_true_eq, Params.baseRev, Params.baseFwd]; omega
theorem wf_xAxisHigh {m : Int} : (Instr.xAxisHigh m).wf = true ↔ 64 ≤ m ∧ m ≤ 191 := by
  simp only [Instr.wf, Bool.and_eq_true, decide_eq_true_eq, Params.xHigh, Params.baseX]; omega
theorem wf_xAxisLow {m : Int} : (Instr.xAxisLow m).wf = true ↔ 0 ≤ m ∧ m < 64 := by
  simp only [Instr.wf, Bool.and_eq_true, decide_eq_true_eq, Params.xHigh, Params.baseX]; omega
theorem wf_yAxis {m : Int} : (Instr.yAxis m).wf = true ↔ 0 ≤ m ∧ m < 32 := by
  simp only [Instr.wf, Bool.and_eq_true, decide_eq_true_eq, Params.baseX, Params.baseY]; omega
theorem wf_ignored {k : Int} : (Instr.ignored k).wf = true ↔ 0 ≤ k ∧ k < 32 := by
  simp only [Instr.wf, Bool.and_eq_true, decide_eq_true_eq, Params.baseY]

/-- The three bands of the motor profile (R76). -/
theorem decodeMotor_cases (b : Byte) :
    (128 ≤ byteVal b ∧ decodeMotor b = .ledToggle (byteVal b - 128)) ∨
    (64 ≤ byteVal b ∧ byteVal b < 128 ∧ decodeMotor b = .reverse (byteVal b - 64)) ∨
    (byteVal b < 64 ∧ decodeMotor b = .forward (byteVal b - 32)) := by
  simp only [decodeMotor, magnitude, Params.baseLed, Params.baseRev, Params.baseFwd]
  by_cases h₁ : 128 ≤ byteVal b
  · exact .inl ⟨h₁, if_pos h₁⟩
  rw [if_neg h₁]
  by_cases h₂ : 64 ≤ byteVal b
  · exact .inr (.inl ⟨h₂, by omega, if_pos h₂⟩)
  · exact .inr (.inr ⟨by omega, if_neg h₂⟩)

/-- The bands of the servo profile (R77), `X_AXIS` in its two bit patterns. -/
theorem decodeServo_cases (b : Byte) :
    (128 ≤ byteVal b ∧ decodeServo b = .xAxisHigh (byteVal b - 64)) ∨
    (64 ≤ byteVal b ∧ byteVal b < 128 ∧ decodeServo b = .xAxisLow (byteVal b - 64)) ∨
    (32 ≤ byteVal b ∧ byteVal b < 64 ∧ decodeServo b = .yAxis (byteVal b - 32)) ∨
    (byteVal b < 32 ∧ decodeServo b = .ignored (byteVal b)) := by
  simp only [decodeServo, magnitude, Params.baseX, Params.xHigh, Params.baseY]
  by_cases h₁ : 64 ≤ byteVal b
  · rw [if_pos h₁]
    by_cases h₂ : 128 ≤ byteVal b
    · exact .inl ⟨h₂, if_pos h₂⟩
    · exact .inr (.inl ⟨h₁, by omega, if_neg h₂⟩)
  · rw [if_neg h₁]
    by_cases h₂ : 32 ≤ byteVal b
    · exact .inr (.inr (.inl ⟨h₂, by omega, if_pos h₂⟩))
    · exact .inr (.inr (.inr ⟨by omega, if_neg h₂⟩))

end Sys2Proof
end

