-- ==== Sys2Proof/Laws/PerInstr.lean ====
section
/-! SUPPORT. For every command, as syntax: its encoding has the fixed bits of its row of
the opcode table (R72, R73). -/

namespace Sys2Proof.Laws.TableBits

open Sys2Proof Sys2Proof.Machine

/-- The byte of a well-formed command has its row's fixed bits, and the row is one of its profile's. -/
def Statement (i : Instr) : Prop :=
  i.wf = true → i.opcode.fits (encode i) = true ∧ i.opcode ∈ i.profile.rows ∧ byteVal (encode i) = encodeVal i

/-- The bytes of a row's band have the row's fixed bits. -/
theorem of_band {i : Instr} (lo hi : Nat)
    (h : ∀ n : Fin 256, lo ≤ n.val → n.val ≤ hi → i.opcode.fits (BitVec.ofFin n) = true)
    (hr : i.opcode ∈ i.profile.rows) (hi' : hi ≤ 255) (h₁ : (lo : Int) ≤ encodeVal i) (h₂ : encodeVal i ≤ hi) :
    i.opcode.fits (encode i) = true ∧ i.opcode ∈ i.profile.rows ∧ byteVal (encode i) = encodeVal i := by
  have hv : byteVal (encode i) = encodeVal i := byteVal_byteOf (by omega) (by omega)
  have hn := h (encode i).toFin (by simp only [byteVal] at hv; simp only [BitVec.val_toFin]; omega)
    (by simp only [byteVal] at hv; simp only [BitVec.val_toFin]; omega)
  exact ⟨hn, hr, hv⟩

theorem ledToggle (k : Int) : Statement (.ledToggle k) := fun h => by
  obtain ⟨h₁, h₂⟩ := wf_ledToggle.1 h
  have hb : ∀ n : Fin 256, 128 ≤ n.val → n.val ≤ 255 → Opcode.ledToggle.fits (BitVec.ofFin n) = true := by decide +kernel
  exact of_band 128 255 hb (by simp [Instr.opcode, Instr.profile, Profile.rows]) (by omega)
    (by simp only [encodeVal, Params.baseLed]; omega) (by simp only [encodeVal, Params.baseLed]; omega)

theorem reverse (m : Int) : Statement (.reverse m) := fun h => by
  obtain ⟨h₁, h₂⟩ := wf_reverse.1 h
  have hb : ∀ n : Fin 256, 64 ≤ n.val → n.val ≤ 127 → Opcode.reverse.fits (BitVec.ofFin n) = true := by decide +kernel
  exact of_band 64 127 hb (by simp [Instr.opcode, Instr.profile, Profile.rows]) (by omega)
    (by simp only [encodeVal, Params.baseRev]; omega) (by simp only [encodeVal, Params.baseRev]; omega)

theorem forward (m : Int) : Statement (.forward m) := fun h => by
  obtain ⟨h₁, h₂⟩ := wf_forward.1 h
  have hb : ∀ n : Fin 256, 0 ≤ n.val → n.val ≤ 63 → Opcode.forward.fits (BitVec.ofFin n) = true := by decide +kernel
  exact of_band 0 63 hb (by simp [Instr.opcode, Instr.profile, Profile.rows]) (by omega)
    (by simp only [encodeVal, Params.baseFwd]; omega) (by simp only [encodeVal, Params.baseFwd]; omega)

theorem xAxisHigh (m : Int) : Statement (.xAxisHigh m) := fun h => by
  obtain ⟨h₁, h₂⟩ := wf_xAxisHigh.1 h
  have hb : ∀ n : Fin 256, 128 ≤ n.val → n.val ≤ 255 → Opcode.xAxisHigh.fits (BitVec.ofFin n) = true := by decide +kernel
  exact of_band 128 255 hb (by simp [Instr.opcode, Instr.profile, Profile.rows]) (by omega)
    (by simp only [encodeVal, Params.baseX]; omega) (by simp only [encodeVal, Params.baseX]; omega)

theorem xAxisLow (m : Int) : Statement (.xAxisLow m) := fun h => by
  obtain ⟨h₁, h₂⟩ := wf_xAxisLow.1 h
  have hb : ∀ n : Fin 256, 64 ≤ n.val → n.val ≤ 127 → Opcode.xAxisLow.fits (BitVec.ofFin n) = true := by decide +kernel
  exact of_band 64 127 hb (by simp [Instr.opcode, Instr.profile, Profile.rows]) (by omega)
    (by simp only [encodeVal, Params.baseX]; omega) (by simp only [encodeVal, Params.baseX]; omega)

theorem yAxis (m : Int) : Statement (.yAxis m) := fun h => by
  obtain ⟨h₁, h₂⟩ := wf_yAxis.1 h
  have hb : ∀ n : Fin 256, 32 ≤ n.val → n.val ≤ 63 → Opcode.yAxis.fits (BitVec.ofFin n) = true := by decide +kernel
  exact of_band 32 63 hb (by simp [Instr.opcode, Instr.profile, Profile.rows]) (by omega)
    (by simp only [encodeVal, Params.baseY]; omega) (by simp only [encodeVal, Params.baseY]; omega)

theorem ignored (k : Int) : Statement (.ignored k) := fun h => by
  obtain ⟨h₁, h₂⟩ := wf_ignored.1 h
  have hb : ∀ n : Fin 256, 0 ≤ n.val → n.val ≤ 31 → Opcode.ignored.fits (BitVec.ofFin n) = true := by decide +kernel
  exact of_band 0 31 hb (by simp [Instr.opcode, Instr.profile, Profile.rows]) (by omega)
    (by simp only [encodeVal]; omega) (by simp only [encodeVal]; omega)

end Sys2Proof.Laws.TableBits
end

