-- ==== Sys2Proof/Laws/Step.lean ====
section
/-! SUPPORT. What a step can do, said once, and how runs unfold. -/

namespace Sys2Proof.Machine

/-- Every command answers a next state in which only the register file may differ (R90, R100). -/
theorem exec_next (i : Instr) (s : State) : ∃ rf, exec i s = .next { s with rf := rf } := by
  cases i <;> exact ⟨_, rfl⟩

/-- A step from a state with the byte `b` at the port. -/
theorem step_byte {s : State} {b : Byte} (h : s.rxByte = some b) :
    step s = if s.rxEnabled then exec (decode s.profile b) s.takeSlot else .refused .byteBeforeLaunch := by
  simp only [step, h]

/-- A step from a state with no byte at the port. -/
theorem step_quiet {s : State} (h : s.rxByte = none) : step s = .next s.takeSlot.advance := by
  simp only [step, h]

/-- The cases of a step that answers a next state. -/
theorem step_cases {s t : State} (h : step s = .next t) :
    (∃ b, s.rxByte = some b ∧ s.rxEnabled = true ∧ exec (decode s.profile b) s.takeSlot = .next t) ∨
    (s.rxByte = none ∧ s.launched = false ∧ t = s.takeSlot.initCall) ∨
    (s.rxByte = none ∧ s.launched = true ∧ s.cnt = 0 ∧ t = s.takeSlot.phaseStart) ∨
    (s.rxByte = none ∧ s.launched = true ∧ 0 < s.cnt ∧ t = s.takeSlot.tick) := by
  have hl : s.takeSlot.launched = s.launched := rfl
  rcases hb : s.rxByte with _ | b
  · rw [step_quiet hb] at h
    injection h with h
    rw [State.advance, hl] at h
    by_cases hL : s.launched = true
    · rw [if_pos hL, State.generate, State.takeSlot_cnt] at h
      by_cases hc : s.cnt = 0
      · rw [if_pos hc] at h
        exact .inr (.inr (.inl ⟨rfl, hL, hc, h.symm⟩))
      · rw [if_neg hc] at h
        exact .inr (.inr (.inr ⟨rfl, hL, by omega, h.symm⟩))
    · rw [if_neg hL] at h
      exact .inr (.inl ⟨rfl, by simpa using hL, h.symm⟩)
  · rw [step_byte hb] at h
    by_cases he : s.rxEnabled = true
    · rw [if_pos he] at h
      exact .inl ⟨b, rfl, he, h⟩
    · rw [if_neg he] at h
      cases h

@[simp] theorem run_zero (s : State) : run 0 s = .next s := rfl

/-- A first step that answers a next state. -/
theorem run_succ_next {k : Nat} {s t : State} (h : step s = .next t) : run (k + 1) s = run k t := by
  simp only [run, h]

theorem core_run_succ (M : Host.Core) (k : Nat) (s : M.State) :
    M.run (k + 1) s = (match M.step s with
      | .next t => M.run k t
      | .fault r => .fault r
      | .refused r => .refused r) := by
  cases h : M.step s <;> simp only [Host.Core.run, h]

/-- `run` is the host's run of the machine behind `Host.Core`. -/
theorem run_eq_core (k : Nat) (s : State) : run k s = Host.Core.run Sys2Proof.core k s := by
  induction k generalizing s with
  | zero => rfl
  | succ k ih =>
    refine Eq.trans ?_ (core_run_succ Sys2Proof.core k s).symm
    have e : Sys2Proof.core.step s = step s := rfl
    rw [run]
    cases h : step s with
    | next t => rw [h] at e; rw [e]; exact ih t
    | fault r => rw [h] at e; rw [e]; rfl
    | refused r => rw [h] at e; rw [e]; rfl

/-- Runs in sequence. -/
theorem run_add {j k : Nat} {s t : State} (h : run j s = .next t) : run (j + k) s = run k t := by
  induction j generalizing s with
  | zero => cases h; rw [Nat.zero_add]
  | succ j ih =>
    rw [Nat.succ_add, run]
    rw [run] at h
    cases hs : step s with
    | next u => rw [hs] at h; exact ih h
    | fault r => rw [hs] at h; cases h
    | refused r => rw [hs] at h; cases h

end Sys2Proof.Machine
end

