-- ==== Sys2Proof/Tests/Slice0.lean ====
section
/-! SUPPORT. Small tests and the witnesses of the statements' premises. Expected values come from the spec: the worked
examples and vectors of 95_test_vectors.md (E1 to E8, V1 to V7), or a word written out from R72 and R73. -/

namespace Sys2Proof.Tests

open Sys2Proof Sys2Proof.Machine

/-- The state an outcome goes on with. -/
def nextOf : Host.Outcome State Fault Refusal → Option State
  | .next t => some t
  | .fault _ => none
  | .refused _ => none

/-- A motor register file (on, off, level, led), written as 95_test_vectors.md writes it. -/
def motorRf (on off lvl led : Int) : RegFile :=
  { RegFile.reset with onDuration := regOf on, offDuration := regOf off, outputLevel := regOf lvl, ledMask := regOf led }

/-- A servo register file (x, y). -/
def servoRf (x y : Int) : RegFile := { RegFile.reset with xPulseCount := regOf x, yPulseCount := regOf y }

/-- A launched core with these registers, about to take these slots. -/
def motorAt (rf : RegFile) (ph : Phase) (cnt : Nat) (l : List Slot) : State :=
  { State.launchFor .motor .literal with rf := rf, phase := ph, cnt := cnt, script := l }

/-- The same with the corrected off-phase guard. -/
def correctedAt (rf : RegFile) (ph : Phase) : State := { motorAt rf ph 0 [] with offGuard := .corrected }

/-- A launched servo core with these registers. -/
def servoAt (rf : RegFile) (ph : Phase) (cnt : Nat) (l : List Slot) : State :=
  { State.launchFor .servo .literal with rf := rf, phase := ph, cnt := cnt, script := l }

/-! ### Well-formedness: one term below and one above each range is refused, the ends are not -/

theorem test_wf_ends : (Instr.ledToggle 0).wf ∧ (Instr.ledToggle 127).wf ∧ (Instr.reverse 0).wf ∧
    (Instr.reverse 63).wf ∧ (Instr.forward (-32)).wf ∧ (Instr.forward 31).wf ∧ (Instr.xAxisHigh 64).wf ∧
    (Instr.xAxisHigh 191).wf ∧ (Instr.xAxisLow 0).wf ∧ (Instr.xAxisLow 63).wf ∧ (Instr.yAxis 0).wf ∧
    (Instr.yAxis 31).wf ∧ (Instr.ignored 0).wf ∧ (Instr.ignored 31).wf := by decide

theorem test_wf_ledToggle_low : (Instr.ledToggle (-1)).wf = false := by decide
theorem test_wf_ledToggle_high : (Instr.ledToggle 128).wf = false := by decide
theorem test_wf_reverse_low : (Instr.reverse (-1)).wf = false := by decide
theorem test_wf_reverse_high : (Instr.reverse 64).wf = false := by decide
theorem test_wf_forward_low : (Instr.forward (-33)).wf = false := by decide
theorem test_wf_forward_high : (Instr.forward 32).wf = false := by decide
theorem test_wf_xAxisHigh_low : (Instr.xAxisHigh 63).wf = false := by decide
theorem test_wf_xAxisHigh_high : (Instr.xAxisHigh 192).wf = false := by decide
theorem test_wf_xAxisLow_low : (Instr.xAxisLow (-1)).wf = false := by decide
theorem test_wf_xAxisLow_high : (Instr.xAxisLow 64).wf = false := by decide
theorem test_wf_yAxis_low : (Instr.yAxis (-1)).wf = false := by decide
theorem test_wf_yAxis_high : (Instr.yAxis 32).wf = false := by decide
theorem test_wf_ignored_low : (Instr.ignored (-1)).wf = false := by decide
theorem test_wf_ignored_high : (Instr.ignored 32).wf = false := by decide

/-! ### Decoding words written out from R72 and R73 -/

theorem test_decode_ledToggle : decode .motor 0b11001000 = .ledToggle 72 := by decide
theorem test_decode_reverse : decode .motor 0b01111111 = .reverse 63 := by decide
theorem test_decode_forward : decode .motor 0b00011111 = .forward (-1) := by decide
theorem test_decode_xAxisHigh : decode .servo 0b10000000 = .xAxisHigh 64 := by decide
theorem test_decode_xAxisLow : decode .servo 0b01111111 = .xAxisLow 63 := by decide
theorem test_decode_yAxis : decode .servo 0b00111111 = .yAxis 31 := by decide
theorem test_decode_ignored : decode .servo 0b00011111 = .ignored 31 := by decide

/-- The thresholds from both sides, which are the witnesses of the clauses of `ThresholdsSelectTheCommand`. -/
theorem test_thresholds_motor : decode .motor 63 = .forward 31 ∧ decode .motor 64 = .reverse 0 ∧
    decode .motor 127 = .reverse 63 ∧ decode .motor 128 = .ledToggle 0 ∧ decode .motor 0 = .forward (-32) ∧
    decode .motor 255 = .ledToggle 127 := by decide
theorem test_thresholds_servo : decode .servo 31 = .ignored 31 ∧ decode .servo 32 = .yAxis 0 ∧
    decode .servo 63 = .yAxis 31 ∧ decode .servo 64 = .xAxisLow 0 ∧ decode .servo 127 = .xAxisLow 63 ∧
    decode .servo 128 = .xAxisHigh 64 ∧ decode .servo 255 = .xAxisHigh 191 ∧ decode .servo 0 = .ignored 0 := by decide

/-- R81's examples of the written forms: an `X_AXIS` has one spelling for both bit patterns. -/
theorem test_spelling : (Spelling.forward (-12)).encode = 0x14 ∧ (Spelling.xAxis 136).encode = 0xC8 ∧
    (Spelling.xAxis 5).encode = 0x45 ∧ (Spelling.byte 200).encode = 0xC8 := by decide

theorem test_no_byte_rejected : decodeBytes .motor [] = .error .noByte := rfl
theorem test_table_word : decodeTableWord 8 0b01000110 = some (.reverse 6) := by decide
theorem test_table_word_servo : decodeTableWordFor .servo 8 0b00101000 = some (.yAxis 8) := by decide

/-! ### The commands (V1, V2) -/

theorem test_ledToggle_off : (nextOf (exec (.ledToggle 72) (motorAt (motorRf 10 10 0 2) .mOn 0 []))).map State.rf =
    some (motorRf 10 10 0 0) := by decide
theorem test_ledToggle_on : (nextOf (exec (.ledToggle 0) (motorAt (motorRf 16 4 5 0) .mOn 0 []))).map State.rf =
    some (motorRf 16 4 5 2) := by decide
theorem test_reverse : (nextOf (exec (.reverse 6) (motorAt (motorRf 10 10 0 2) .mOn 0 []))).map State.rf =
    some (motorRf 16 4 5 2) := by decide
theorem test_reverse_top : (nextOf (exec (.reverse 63) (motorAt (motorRf 10 10 0 2) .mOn 0 []))).map State.rf =
    some (motorRf 73 (-53) 5 2) := by decide
theorem test_forward_bottom : (nextOf (exec (.forward (-32)) (motorAt (motorRf 10 10 0 2) .mOn 0 []))).map State.rf =
    some (motorRf (-22) 42 9 2) := by decide
theorem test_forward_neutral : (nextOf (exec (.forward 0) (motorAt (motorRf 73 (-53) 5 0) .mOn 0 []))).map State.rf =
    some (motorRf 10 10 9 0) := by decide
theorem test_xAxisHigh : (nextOf (exec (.xAxisHigh 191) (servoAt (servoRf 0 0) .sX 0 []))).map State.rf =
    some (servoRf (-181) 0) := by decide
theorem test_xAxisLow : (nextOf (exec (.xAxisLow 0) (servoAt (servoRf 5 2) .sX 0 []))).map State.rf =
    some (servoRf 10 2) := by decide
theorem test_yAxis : (nextOf (exec (.yAxis 8) (servoAt (servoRf 5 0) .sX 0 []))).map State.rf =
    some (servoRf 5 2) := by decide
theorem test_yAxis_bottom : (nextOf (exec (.yAxis 31) (servoAt (servoRf 0 0) .sX 0 []))).map State.rf =
    some (servoRf 0 (-21)) := by decide
theorem test_ignored : (nextOf (exec (.ignored 16) (servoAt (servoRf 5 2) .sX 0 []))).map State.rf =
    some (servoRf 5 2) := by decide

/-! ### Phase starts and ticks (V4, V5, V6) -/

/-- What a test of a generator step looks at: trace, `cnt`, `phase`. -/
def seen (s : State) : Option (List Event × Nat × Phase) := (nextOf (step s)).map fun t => (t.trace, t.cnt, t.phase)

theorem test_mOn_neutral : seen (motorAt (motorRf 10 10 5 0) .mOn 0 []) = some ([], 0, .mOff) := by decide
theorem test_mOn_reverse_led : seen (motorAt (motorRf 16 4 5 2) .mOn 0 []) = some ([.drive 7], 16, .mOff) := by decide
theorem test_mOn_zero_length : seen (motorAt (motorRf 0 20 9 2) .mOn 0 []) = some ([.drive 11], 0, .mOff) := by decide
theorem test_mOff_runs : seen (motorAt (motorRf 16 4 5 0) .mOff 0 []) = some ([.drive 0], 4, .mOn) := by decide
theorem test_mOff_full : seen (motorAt (motorRf 20 0 9 2) .mOff 0 []) = some ([], 0, .mOn) := by decide
theorem test_mOff_full_corrected : seen (correctedAt (motorRf 20 0 9 2) .mOff) = some ([], 0, .mOn) := by decide
theorem test_mOff_draws : seen (motorAt (motorRf 41 (-21) 9 2) .mOff 0 []) =
    some ([.drive 2], Config.negHold 0 (-21), .mOn) := by
  have h : regVal (regOf (-21)) = -21 := by decide
  exact Eq.trans (b := some ([.drive (regVal (regOf 2))], 0 + Config.negHold 0 (regVal (regOf (-21))), .mOn)) rfl
    (by rw [h, Nat.zero_add]; rfl)
theorem test_sX_start : (seen (servoAt (servoRf 5 2) .sX 0 [])).map Prod.snd = some (145, .sY) := by decide
theorem test_sY_start : (seen (servoAt (servoRf 5 2) .sY 0 [])).map Prod.snd = some (91, .sIdle) := by decide
theorem test_sIdle_start : (seen (servoAt (servoRf 5 2) .sIdle 0 [])).map Prod.snd = some (1000, .sX) := by decide
theorem test_sX_drives : ((nextOf (step (servoAt (servoRf 5 2) .sX 0 []))).map State.bus) =
    some (some (selectLevel Config.xSel)) := rfl
theorem test_tick : seen (motorAt (motorRf 16 4 5 2) .mOff 3 []) = some ([.tick], 2, .mOff) := by decide

/-! ### Steps -/

/-- V7: a byte during a hold changes registers, not `cnt`, `phase` or the trace. -/
theorem test_byte_in_hold : seen (motorAt (motorRf 16 4 5 0) .mOff 9 [.byte 74]) = some ([], 9, .mOff) := by decide
theorem test_byte_in_hold_registers : (nextOf (step (motorAt (motorRf 16 4 5 0) .mOff 9 [.byte 74]))).map State.rf =
    some (motorRf 20 0 5 0) := by decide
/-- R78: the same byte under the other profile. -/
theorem test_byte_in_servo : (nextOf (step (servoAt (servoRf 0 0) .sX 0 [.byte 200]))).map State.rf =
    some (servoRf (-126) 0) := by decide
/-- U12, log 4. -/
theorem test_byte_before_launch : step { State.reset with script := [.byte 70] } = .refused .byteBeforeLaunch := rfl
theorem test_first_init_call : nextOf (step State.reset) = some { State.reset with busOutEn := true } := by decide
/-- A placed word runs as the very next step from reset. -/
theorem test_placed_word : (nextOf (step (State.reset.withFetchWord 8 0b01000110))).map State.rf =
    some (motorRf 16 4 5 2) := by decide

/-! ### Witnesses: for every statement with premises, a state and operands that meet them together -/

/-- Bytes that meet the range premises of the command statements, at both ends of each band. -/
theorem witness_ledToggle_bytes : 128 ≤ (128 : Byte).toNat ∧ 128 ≤ (255 : Byte).toNat := by decide
theorem witness_reverse_bytes : (64 ≤ (64 : Byte).toNat ∧ (64 : Byte).toNat < 128) ∧
    (64 ≤ (127 : Byte).toNat ∧ (127 : Byte).toNat < 128) := by decide
theorem witness_forward_bytes : (0 : Byte).toNat < 64 ∧ (63 : Byte).toNat < 64 := by decide
theorem witness_xAxis_bytes : 64 ≤ (64 : Byte).toNat ∧ 64 ≤ (127 : Byte).toNat ∧ 64 ≤ (128 : Byte).toNat ∧
    64 ≤ (255 : Byte).toNat := by decide
theorem witness_yAxis_bytes : (32 ≤ (32 : Byte).toNat ∧ (32 : Byte).toNat < 64) ∧
    (32 ≤ (63 : Byte).toNat ∧ (63 : Byte).toNat < 64) := by decide
theorem witness_ignored_bytes : (0 : Byte).toNat < 32 ∧ (31 : Byte).toNat < 32 := by decide
/-- Both sides of R77's bit 7: which disjunct of `XAxisSetsItsCount` each end takes. -/
theorem witness_xAxis_forms : decode .servo 127 = .xAxisLow (byteVal 127 - 64) ∧
    decode .servo 128 = .xAxisHigh (byteVal 128 - 64) := by decide

/-- A motor state after command 70 (V1), at launch. -/
def motor70 (ph : Phase) (cnt : Nat) (l : List Slot) : State := motorAt (motorRf 16 4 5 2) ph cnt l

/-- A servo state after commands 69 and 40 (V2). -/
def servo52 (ph : Phase) (cnt : Nat) (l : List Slot) : State := servoAt (servoRf 5 2) ph cnt l

theorem witness_CommandsIdempotent : (∀ k, Instr.reverse 6 ≠ .ledToggle k) ∧
    ∃ t, exec (.reverse 6) (motor70 .mOn 0 []) = .next t := ⟨fun _ h => (by cases h), _, rfl⟩
theorem witness_LedInvolutive : ((motor70 .mOn 0 []).readReg .ledMask = 0 ∨ (motor70 .mOn 0 []).readReg .ledMask = 2) ∧
    ∃ t, exec (.ledToggle 72) (motor70 .mOn 0 []) = .next t := ⟨.inr (by decide), _, rfl⟩
theorem witness_LastCommandWins_direction : (∃ m, Instr.reverse 6 = .reverse m ∨ Instr.reverse 6 = .forward m) ∧
    (∃ m, Instr.forward 6 = .reverse m ∨ Instr.forward 6 = .forward m) ∧
    ∃ t, exec (.reverse 6) (motor70 .mOn 0 []) = .next t := ⟨⟨_, .inl rfl⟩, ⟨_, .inr rfl⟩, _, rfl⟩
theorem witness_LastCommandWins_x : (∃ m, Instr.xAxisHigh 136 = .xAxisHigh m ∨ Instr.xAxisHigh 136 = .xAxisLow m) ∧
    (∃ m, Instr.xAxisLow 5 = .xAxisHigh m ∨ Instr.xAxisLow 5 = .xAxisLow m) ∧
    ∃ t, exec (.xAxisHigh 136) (servo52 .sX 0 []) = .next t := ⟨⟨_, .inl rfl⟩, ⟨_, .inr rfl⟩, _, rfl⟩
theorem witness_LastCommandWins_y : ∃ t, exec (.yAxis 8) (servo52 .sX 0 []) = .next t := ⟨_, rfl⟩
theorem witness_AxesAreIndependent : (∃ k, Instr.xAxisLow 0 = .xAxisHigh k ∨ Instr.xAxisLow 0 = .xAxisLow k) ∧
    (∃ t, exec (.xAxisLow 0) (servo52 .sX 0 []) = .next t) ∧ ∃ u, exec (.yAxis 8) (servo52 .sX 0 []) = .next u :=
  ⟨⟨_, .inr rfl⟩, ⟨_, rfl⟩, _, rfl⟩

theorem witness_StepRunsTheReceivedCommand : (motor70 .mOff 9 [.byte 74, .idle]).script = .byte 74 :: [.idle] ∧
    (motor70 .mOff 9 [.byte 74, .idle]).rxIe = true ∧ (motor70 .mOff 9 [.byte 74, .idle]).gIe = true := by decide
theorem witness_BytesDecodeInOrder : (motor70 .mOff 9 [.byte 200, .byte 70, .idle]).rxEnabled = true ∧
    (motor70 .mOff 9 [.byte 200, .byte 70, .idle]).script = [200, 70].map Slot.byte ++ [.idle] := by decide
theorem witness_byte_before_launch : (∃ b, ({ State.reset with script := [.byte 70] } : State).rxByte = some b) ∧
    (({ State.reset with script := [.byte 70] } : State).rxIe = false ∨
      ({ State.reset with script := [.byte 70] } : State).gIe = false) := ⟨⟨70, rfl⟩, .inl rfl⟩
theorem witness_no_stop : ¬ ((∃ b, State.reset.rxByte = some b) ∧ (State.reset.rxIe = false ∨ State.reset.gIe = false)) :=
  fun h => (by obtain ⟨⟨b, hb⟩, _⟩ := h; cases hb)

/-- The premises of the statements about a step of a launched core: with a byte at the port ... -/
theorem witness_step_byte : (motor70 .mOff 9 [.byte 74]).launched = true ∧
    (motor70 .mOff 9 [.byte 74]).rxByte = some 74 ∧ ∃ t, step (motor70 .mOff 9 [.byte 74]) = .next t := ⟨rfl, rfl, _, rfl⟩
/-- ... at a phase start ... -/
theorem witness_step_phaseStart : (motor70 .mOn 0 []).launched = true ∧ (motor70 .mOn 0 []).rxByte = none ∧
    (motor70 .mOn 0 []).cnt = 0 ∧ ∃ t, step (motor70 .mOn 0 []) = .next t := ⟨rfl, rfl, rfl, _, rfl⟩
/-- ... and at a tick. -/
theorem witness_step_tick : (motor70 .mOff 3 []).launched = true ∧ (motor70 .mOff 3 []).rxByte = none ∧
    0 < (motor70 .mOff 3 []).cnt ∧ ∃ t, step (motor70 .mOff 3 []) = .next t := ⟨rfl, rfl, by decide, _, rfl⟩
/-- Each of the three steps of `CoreStep` is one some launched state takes. -/
theorem witness_CoreStep : (∃ t, CoreStep (motor70 .mOff 3 []) t) ∧ (∃ t, CoreStep (motor70 .mOn 0 []) t) ∧
    CoreStep (motor70 .mOff 3 []) (motor70 .mOff 3 []).tick :=
  ⟨⟨_, .decode _ 74⟩, ⟨_, .phaseStart _ rfl⟩, .tick _ (by decide)⟩
/-- Two states of one profile and register file that differ in `cnt`, `phase` and the rest, with the same byte. -/
theorem witness_NeitherContext_decoder : (motor70 .mOff 9 [.byte 74]).rxByte = some 74 ∧
    (motor70 .mOn 0 [.byte 74, .idle]).rxByte = some 74 ∧
    (motor70 .mOff 9 [.byte 74]).profile = (motor70 .mOn 0 [.byte 74, .idle]).profile ∧
    (motor70 .mOff 9 [.byte 74]).rf = (motor70 .mOn 0 [.byte 74, .idle]).rf ∧
    (∃ t, step (motor70 .mOff 9 [.byte 74]) = .next t) ∧ ∃ t, step (motor70 .mOn 0 [.byte 74, .idle]) = .next t :=
  ⟨rfl, rfl, rfl, rfl, ⟨_, rfl⟩, _, rfl⟩
theorem witness_NeitherContext_generator : (motor70 .mOn 0 []).rxByte = none ∧
    ((motor70 .mOn 0 []).withScript [.idle, .byte 200]).rxByte = none ∧ (∃ t, step (motor70 .mOn 0 []) = .next t) ∧
    ∃ t, step ((motor70 .mOn 0 []).withScript [.idle, .byte 200]) = .next t := ⟨rfl, rfl, ⟨_, rfl⟩, _, rfl⟩
theorem witness_Inactive_motor : (∃ t, step (motor70 .mOn 0 [.byte 40]) = .next t) ∧
    (motor70 .mOn 0 [.byte 40]).profile = .motor := ⟨⟨_, rfl⟩, rfl⟩
theorem witness_Inactive_servo : (∃ t, step (servo52 .sX 0 [.byte 200]) = .next t) ∧
    (servo52 .sX 0 [.byte 200]).profile = .servo := ⟨⟨_, rfl⟩, rfl⟩
theorem witness_phase_keeps : ¬ ((motor70 .mOff 3 []).launched = true ∧ (motor70 .mOff 3 []).rxByte = none ∧
    (motor70 .mOff 3 []).cnt = 0) ∧ ∃ t, step (motor70 .mOff 3 []) = .next t := ⟨by decide, _, rfl⟩
theorem witness_ThreeCalls : (∀ x ∈ ([] : List Slot).take 3, x = Slot.idle) ∧
    ∀ x ∈ [Slot.idle, .idle, .idle, .byte 70].take 3, x = Slot.idle := by decide
theorem witness_EitherOrder : (motor70 .mOn 0 []).launched = true ∧ (motor70 .mOn 0 []).cnt = 0 := by decide

theorem witness_load_zero : (0 : Int) ≤ 0 := by decide
theorem witness_load_negative : (-1 : Int) < 0 := by decide
/-- A hold of 2 with two bytes among three slots, and one of 9. -/
theorem witness_Hold : (motor70 .mOff 2 [.byte 200, .idle, .byte 70]).launched = true ∧
    4 - ((motor70 .mOff 2 [.byte 200, .idle, .byte 70]).script.take 4).countP Slot.isByte ≤
      (motor70 .mOff 2 [.byte 200, .idle, .byte 70]).cnt := by decide

/-! #### States of a run -/

theorem motor70_inv (ph : Phase) (h : Phase.fits .motor ph = true) (l : List Slot) : (motor70 ph 0 l).Inv where
  regs := ⟨.inr (by show regOf 2 = 2; decide), (by show regVal (regOf 16) + regVal (regOf 4) = 20; decide),
    .inr (.inl ⟨(by show regOf 5 = 5; decide), (by show 10 ≤ regVal (regOf 16) ∧ regVal (regOf 16) ≤ 73; decide)⟩), rfl, rfl⟩
  phase_fits := h
  bus_last := rfl
  bus_value := fun _ h => (by cases h)
  undriven := fun _ => ⟨rfl, rfl⟩
  boot_order := ⟨fun _ => rfl, fun _ => rfl⟩
  before_launch := fun h => (by cases h)

/-- A motor run in which the neutral on-phase is due and both durations are those of command 63. -/
theorem motor63_inv (l : List Slot) : (motorAt (motorRf 41 (-21) 9 2) .mOn 0 l).Inv where
  regs := ⟨.inr (by show regOf 2 = 2; decide), (by show regVal (regOf 41) + regVal (regOf (-21)) = 20; decide),
    .inr (.inr ⟨(by show regOf 9 = 9; decide), (by show -22 ≤ regVal (regOf 41) ∧ regVal (regOf 41) ≤ 41; decide)⟩), rfl, rfl⟩
  phase_fits := rfl
  bus_last := rfl
  bus_value := fun _ h => (by cases h)
  undriven := fun _ => ⟨rfl, rfl⟩
  boot_order := ⟨fun _ => rfl, fun _ => rfl⟩
  before_launch := fun h => (by cases h)

/-- The state after `Drive(7)` of V5. -/
def driven7 : State := { motor70 .mOff 16 [] with bus := some 7, trace := [.drive 7] }

theorem driven7_inv : driven7.Inv where
  regs := (motor70_inv .mOff rfl []).regs
  phase_fits := rfl
  bus_last := rfl
  bus_value := fun v h => (by cases h; exact .inr (.inr (.inr (.inl rfl))))
  undriven := fun h => (by cases h)
  boot_order := ⟨fun _ => rfl, fun _ => rfl⟩
  before_launch := fun h => (by cases h)

theorem servo52_inv (l : List Slot) : (servo52 .sX 0 l).Inv where
  regs := ⟨(by show -181 ≤ regVal (regOf 5) ∧ regVal (regOf 5) ≤ 10; decide),
    (by show -21 ≤ regVal (regOf 2) ∧ regVal (regOf 2) ≤ 10; decide), rfl, rfl, rfl, rfl⟩
  phase_fits := rfl
  bus_last := rfl
  bus_value := fun _ h => (by cases h)
  undriven := fun _ => ⟨rfl, rfl⟩
  boot_order := ⟨fun _ => rfl, fun _ => rfl⟩
  before_launch := fun h => (by cases h)

theorem witness_InvariantKept : driven7.Inv ∧ ∃ t, step driven7 = .next t := ⟨driven7_inv, _, rfl⟩
theorem witness_TimeAdvances : (motor70 .mOn 0 []).Inv ∧ (motor70 .mOn 0 []).launched = true ∧
    (motor70 .mOn 0 []).script = [] := ⟨motor70_inv _ rfl _, rfl, rfl⟩
theorem witness_TimeAdvances_servo : (servo52 .sX 0 []).Inv ∧ (servo52 .sX 0 []).launched = true ∧
    (servo52 .sX 0 []).script = [] := ⟨servo52_inv _, rfl, rfl⟩
theorem witness_OffGuardsAgree : (motor70 .mOff 0 []).Inv ∧ (motor70 .mOff 0 []).profile = .motor :=
  ⟨motor70_inv _ rfl _, rfl⟩
theorem witness_MotorDriveValues_on : (motor70 .mOn 0 []).Inv ∧ (motor70 .mOn 0 []).profile = .motor ∧
    (motor70 .mOn 0 []).launched = true ∧ (motor70 .mOn 0 []).rxByte = none ∧ (motor70 .mOn 0 []).cnt = 0 ∧
    (∃ t, step (motor70 .mOn 0 []) = .next t ∧ t.trace = (motor70 .mOn 0 []).trace ++ [.drive 7]) ∧
    (motor70 .mOn 0 []).phase = .mOn := ⟨motor70_inv _ rfl _, rfl, rfl, rfl, rfl, ⟨_, rfl, by decide⟩, rfl⟩
theorem witness_MotorDriveValues_off : (motor70 .mOff 0 []).Inv ∧ (motor70 .mOff 0 []).profile = .motor ∧
    (motor70 .mOff 0 []).launched = true ∧ (motor70 .mOff 0 []).rxByte = none ∧ (motor70 .mOff 0 []).cnt = 0 ∧
    (∃ t, step (motor70 .mOff 0 []) = .next t ∧ t.trace = (motor70 .mOff 0 []).trace ++ [.drive 2]) ∧
    (motor70 .mOff 0 []).phase = .mOff := ⟨motor70_inv _ rfl _, rfl, rfl, rfl, rfl, ⟨_, rfl, by decide⟩, rfl⟩
/-- With a silent host no step changes the register file, so neither does a run. -/
theorem silent_rf {s t : State} {k : Nat} (hs : s.script = []) (h : run k s = .next t) : t.rf = s.rf := by
  induction k generalizing s with
  | zero => cases h; rfl
  | succ k ih =>
    have hb : s.rxByte = none := by simp [State.rxByte, hs]
    have hq := step_quiet hb
    rw [run_succ_next hq] at h
    have hk : s.takeSlot.advance.script = [] ∧ s.takeSlot.advance.rf = s.rf := by
      have hf := s.takeSlot.phaseStart_frame
      rcases step_cases hq with ⟨b, h', _⟩ | ⟨_, _, e⟩ | ⟨_, _, _, e⟩ | ⟨_, _, _, e⟩
      · rw [hb] at h'; cases h'
      · rw [e]
        rcases s.takeSlot.initCall_cases with ⟨_, e⟩ | ⟨_, _, e⟩ | ⟨_, _, e⟩ <;> rw [e] <;> simp [State.takeSlot, hs]
      · rw [e, hf.2.2.2.2.2.2, hf.2.2.1]; simp [State.takeSlot, hs]
      · rw [e]; simp [State.takeSlot, State.tick, hs]
    rw [ih hk.1 h, hk.2]

/-- A hold with a silent host ends. -/
theorem silent_hold (n : Nat) {s : State} (hl : s.launched = true) (hs : s.script = []) (hn : s.cnt = n) :
    ∃ t, run n s = .next t ∧ t.cnt = 0 ∧ t.phase = s.phase ∧ t.launched = true ∧ t.script = [] := by
  induction n generalizing s with
  | zero => exact ⟨s, rfl, hn, rfl, hl, hs⟩
  | succ n ih =>
    have hb : s.rxByte = none := by simp [State.rxByte, hs]
    have hL : s.takeSlot.launched = true := hl
    have hst : step s = .next s.takeSlot.tick := by
      rw [step_quiet hb, State.advance, if_pos hL, State.generate, State.takeSlot_cnt, if_neg (by omega)]
    obtain ⟨t, h1, h2, h3⟩ := ih (s := s.takeSlot.tick) hl (by simp [State.takeSlot, State.tick, hs])
      (by simp [State.tick, hn])
    exact ⟨t, by rw [run_succ_next hst]; exact h1, h2, h3⟩

/-- The neutral cycle of V5: 12 steps to the next start of the on-phase. -/
theorem witness_UndisturbedCycle :
    let s := State.launchFor .motor .literal
    s.Inv ∧ s.due .mOn ∧ s.script = [] ∧ ∃ t, 0 < 12 ∧
      (∀ i u, i < 12 → run i s = .next u →
        u.readReg .onDuration = s.readReg .onDuration ∧ u.readReg .offDuration = s.readReg .offDuration) ∧
      run 12 s = .next t ∧ t.phase = .mOn ∧ t.cnt = 0 :=
  ⟨⟨⟨.inr (by decide), (by show regVal 10 + regVal 10 = 20; decide),
      .inl ⟨(by decide), (by show regVal 10 = 10; decide)⟩, rfl, rfl⟩, rfl, rfl, fun _ h => (by cases h),
      fun _ => ⟨rfl, rfl⟩, ⟨fun _ => rfl, fun _ => rfl⟩, fun h => (by cases h)⟩,
    ⟨rfl, rfl, rfl, rfl⟩, rfl, _, by decide,
    fun i u _ h => (by simp only [State.readReg, silent_rf (k := i) rfl h]; exact ⟨trivial, trivial⟩), rfl, rfl, rfl⟩
/-- A negative duration (V5, command 63): the cycle ends after a number of steps that the draw decides. -/
theorem witness_UndisturbedCycle_negative :
    let s := motorAt (motorRf 41 (-21) 9 2) .mOn 0 []
    s.Inv ∧ s.due .mOn ∧ (s.readReg .onDuration < 0 ∨ s.readReg .offDuration < 0) ∧ ∃ k t, 0 < k ∧
      (∀ i u, i < k → run i s = .next u →
        u.readReg .onDuration = s.readReg .onDuration ∧ u.readReg .offDuration = s.readReg .offDuration) ∧
      run k s = .next t ∧ t.phase = .mOn ∧ t.cnt = 0 := by
  intro s
  obtain ⟨v, hv, vl, vs, vc, vp⟩ : ∃ v, step s = .next v ∧ v.launched = true ∧ v.script = [] ∧ v.cnt = 41 ∧ v.phase = .mOff :=
    ⟨_, rfl, rfl, rfl, by decide, rfl⟩
  obtain ⟨u, hu, uc, up, ul, us⟩ := silent_hold 41 vl vs vc
  have uq := step_quiet (s := u) (by simp [State.rxByte, us])
  have ue : u.takeSlot.advance = u.takeSlot.startMOff := by
    rw [State.advance, if_pos (by exact ul), State.generate, if_pos (by exact uc), State.phaseStart, State.takeSlot_phase, up,
      vp]
  rw [ue] at uq
  have f := u.takeSlot.phaseStart_frame
  have fe : u.takeSlot.phaseStart = u.takeSlot.startMOff := by rw [State.phaseStart, State.takeSlot_phase, up, vp]
  rw [fe] at f
  have wp : u.takeSlot.startMOff.phase = .mOn := by rw [State.startMOff_eq]; split <;> rfl
  obtain ⟨t, h1, h2, h3, _⟩ := silent_hold u.takeSlot.startMOff.cnt (s := u.takeSlot.startMOff)
    (by simp only [State.launched, f]; exact ul) (by rw [f.2.2.2.2.2.2]; simp [State.takeSlot, us]) rfl
  refine ⟨motor63_inv _, ⟨rfl, rfl, rfl, rfl⟩, .inr (by decide), (41 + (u.takeSlot.startMOff.cnt + 1)) + 1, t, by omega,
    fun i v _ h => (by simp only [State.readReg, silent_rf (k := i) rfl h]; exact ⟨trivial, trivial⟩),
    ?_, h3.trans wp, h2⟩
  rw [run_succ_next hv, run_add hu, run_succ_next uq, h1]
theorem witness_Pins_off : State.reset.busOutEn = false := by decide
theorem witness_Pins_on : driven7.Inv ∧ driven7.busOutEn = true ∧ driven7.bus = some 7 := ⟨driven7_inv, rfl, rfl⟩

/-! #### Well-formed input -/

theorem witness_WellFormedRun_motor : (motor70 .mOn 0 [.byte 42, .idle, .byte 64, .byte 200]).WellFormedRun ∧
    ∃ t, step (motor70 .mOn 0 [.byte 42, .idle, .byte 64, .byte 200]) = .next t :=
  ⟨⟨by show 10 ≤ regVal (regOf 16) ∧ regVal (regOf 16) ≤ 20 ∧ regVal (regOf 4) = 20 - regVal (regOf 16); decide, rfl,
    fun b hb => (by simp [motor70, motorAt] at hb; rcases hb with rfl | rfl | rfl <;> decide)⟩, _, rfl⟩
theorem witness_WellFormedRun_servo : (servo52 .sX 0 [.byte 0, .idle, .byte 42, .byte 74]).WellFormedRun ∧
    ∃ t, run 2 (servo52 .sX 0 [.byte 0, .idle, .byte 42, .byte 74]) = .next t :=
  ⟨⟨by show (0 ≤ regVal (regOf 5) ∧ regVal (regOf 5) ≤ 10) ∧ (0 ≤ regVal (regOf 2) ∧ regVal (regOf 2) ≤ 10); decide, rfl,
    fun b hb => (by simp [servo52, servoAt] at hb; rcases hb with rfl | rfl | rfl <;> decide)⟩, _, rfl⟩

/-! #### Phase starts -/

theorem witness_On_skipped : (motorAt (motorRf 10 10 5 0) .mOn 0 []).due .mOn ∧
    (motorAt (motorRf 10 10 5 0) .mOn 0 []).readReg .onDuration = 10 := ⟨⟨rfl, rfl, rfl, rfl⟩, by decide⟩
theorem witness_On_zero : (motorAt (motorRf 0 20 9 2) .mOn 0 []).due .mOn ∧
    (motorAt (motorRf 0 20 9 2) .mOn 0 []).readReg .onDuration ≠ 10 ∧
    0 ≤ (motorAt (motorRf 0 20 9 2) .mOn 0 []).readReg .onDuration := ⟨⟨rfl, rfl, rfl, rfl⟩, by decide⟩
theorem witness_On_negative : (motorAt (motorRf (-1) 21 9 2) .mOn 0 []).due .mOn ∧
    (motorAt (motorRf (-1) 21 9 2) .mOn 0 []).readReg .onDuration ≠ 10 ∧
    (motorAt (motorRf (-1) 21 9 2) .mOn 0 []).readReg .onDuration < 0 := ⟨⟨rfl, rfl, rfl, rfl⟩, by decide⟩
theorem witness_Off_skipped : (motorAt (motorRf 20 0 5 2) .mOff 0 []).due .mOff ∧
    (motorAt (motorRf 20 0 5 2) .mOff 0 []).offGuard = .literal ∧
    ¬ (motorAt (motorRf 20 0 5 2) .mOff 0 []).readReg .onDuration ≠ 20 := ⟨⟨rfl, rfl, rfl, rfl⟩, rfl, by decide⟩
theorem witness_Off_runs : (motorAt (motorRf 19 1 5 2) .mOff 0 []).due .mOff ∧
    (motorAt (motorRf 19 1 5 2) .mOff 0 []).offGuard = .literal ∧
    (motorAt (motorRf 19 1 5 2) .mOff 0 []).readReg .onDuration ≠ 20 := ⟨⟨rfl, rfl, rfl, rfl⟩, rfl, by decide⟩
theorem witness_Off_skipped_corrected : (correctedAt (motorRf 20 0 5 2) .mOff).due .mOff ∧
    (correctedAt (motorRf 20 0 5 2) .mOff).offGuard = .corrected ∧
    ¬ (correctedAt (motorRf 20 0 5 2) .mOff).readReg .offDuration ≠ 0 := ⟨⟨rfl, rfl, rfl, rfl⟩, rfl, by decide⟩
theorem witness_Off_negative_corrected : (correctedAt (motorRf 21 (-1) 5 2) .mOff).due .mOff ∧
    (correctedAt (motorRf 21 (-1) 5 2) .mOff).offGuard = .corrected ∧
    (correctedAt (motorRf 21 (-1) 5 2) .mOff).readReg .offDuration ≠ 0 ∧
    (correctedAt (motorRf 21 (-1) 5 2) .mOff).readReg .offDuration < 0 := ⟨⟨rfl, rfl, rfl, rfl⟩, rfl, by decide⟩
theorem witness_X : (servo52 .sX 0 []).due .sX ∧ 0 ≤ (servo52 .sX 0 []).readReg .xPulseCount :=
  ⟨⟨rfl, rfl, rfl, rfl⟩, by decide⟩
theorem witness_X_negative : (servoAt (servoRf (-1) 0) .sX 0 []).due .sX ∧
    (servoAt (servoRf (-1) 0) .sX 0 []).readReg .xPulseCount < 0 := ⟨⟨rfl, rfl, rfl, rfl⟩, by decide⟩
theorem witness_Y : (servoAt (servoRf 0 0) .sY 0 []).due .sY ∧ 0 ≤ (servoAt (servoRf 0 0) .sY 0 []).readReg .yPulseCount :=
  ⟨⟨rfl, rfl, rfl, rfl⟩, by decide⟩
theorem witness_Y_negative : (servoAt (servoRf 0 (-21)) .sY 0 []).due .sY ∧
    (servoAt (servoRf 0 (-21)) .sY 0 []).readReg .yPulseCount < 0 := ⟨⟨rfl, rfl, rfl, rfl⟩, by decide⟩
theorem witness_Idle : (servo52 .sIdle 0 []).due .sIdle := ⟨rfl, rfl, rfl, rfl⟩
theorem witness_ServoPhaseLoads : (servo52 .sX 0 []).launched = true ∧ (servo52 .sX 0 []).rxByte = none ∧
    (servo52 .sX 0 []).cnt = 0 ∧ Phase.fits .servo (servo52 .sX 0 []).phase = true ∧
    ∃ t, step (servo52 .sX 0 []) = .next t := ⟨rfl, rfl, rfl, rfl, _, rfl⟩

/-! #### Waveforms -/

/-- The premises of `SteadyMotorWaveform` with `onDuration` at both ends of its first clause, and at 20 and 10. -/
theorem witness_Steady (on : Int) (h : on = 11 ∨ on = 19 ∨ on = 20 ∨ on = 10) :
    (motorAt (motorRf on (20 - on) 5 2) .mOn 0 []).due .mOn ∧ (motorAt (motorRf on (20 - on) 5 2) .mOn 0 []).script = [] ∧
    (motorAt (motorRf on (20 - on) 5 2) .mOn 0 []).readReg .offDuration =
      20 - (motorAt (motorRf on (20 - on) 5 2) .mOn 0 []).readReg .onDuration ∧
    (motorAt (motorRf on (20 - on) 5 2) .mOn 0 []).readReg .onDuration = on := by
  refine ⟨⟨rfl, rfl, rfl, rfl⟩, rfl, ?_⟩
  rcases h with rfl | rfl | rfl | rfl <;> decide
/-- E6's control state. -/
theorem witness_EndToEnd : (motorAt (motorRf 16 4 5 0) .mOn 0 []).due .mOn ∧ (motorAt (motorRf 16 4 5 0) .mOn 0 []).script = [] ∧
    (motorAt (motorRf 16 4 5 0) .mOn 0 []).readReg .ledMask = 0 ∧ (motorAt (motorRf 16 4 5 0) .mOn 0 []).readReg .outputLevel = 5 ∧
    (motorAt (motorRf 16 4 5 0) .mOn 0 []).readReg .onDuration = 16 ∧
    (motorAt (motorRf 16 4 5 0) .mOn 0 []).readReg .offDuration = 4 := ⟨⟨rfl, rfl, rfl, rfl⟩, rfl, by decide⟩
/-- R131's examples: an old `onDuration` of 16 and byte 74, of 10 and byte 42 at the same instant, of 20 and byte 64. -/
theorem witness_Transitional_cycle (on : Int) (j : Nat) (b : Byte)
    (h : (on = 16 ∧ j = 7 ∧ b = 74) ∨ (on = 10 ∧ j = 0 ∧ b = 42) ∨ (on = 20 ∧ j = 20 ∧ b = 64)) :
    b.toNat < 128 ∧
    let s := motorAt (motorRf on (20 - on) 5 2) .mOn 0 (Slot.idle :: (List.replicate j Slot.idle ++ [Slot.byte b]))
    s.profile = .motor ∧ s.launched = true ∧ s.phase = .mOn ∧ s.cnt = 0 ∧
    s.script = Slot.idle :: (List.replicate j Slot.idle ++ [Slot.byte b]) ∧
    j ≤ (if s.readReg .onDuration = 10 then 0 else if 0 ≤ s.readReg .onDuration then (s.readReg .onDuration).toNat
      else Config.negHold s.draws (s.readReg .onDuration)) := by
  rcases h with ⟨rfl, rfl, rfl⟩ | ⟨rfl, rfl, rfl⟩ | ⟨rfl, rfl, rfl⟩
  all_goals exact ⟨by decide, rfl, rfl, rfl, rfl, rfl, by decide⟩
/-- The same within a hold of 9, with a byte for each clause: 74 skips, 0 and 73 drive, 43 and 127 draw. -/
theorem witness_Transitional_hold (b : Byte) (h : b = 74 ∨ b = 0 ∨ b = 73 ∨ b = 43 ∨ b = 127) :
    b.toNat < 128 ∧ let s := motor70 .mOff 9 (List.replicate 4 Slot.idle ++ [Slot.byte b])
    s.profile = .motor ∧ s.launched = true ∧ s.phase = .mOff ∧ 4 ≤ s.cnt ∧
    s.script = List.replicate 4 Slot.idle ++ [Slot.byte b] := by
  rcases h with rfl | rfl | rfl | rfl | rfl <;> exact ⟨by decide, rfl, rfl, rfl, by decide, rfl⟩
theorem witness_Transitional_clauses : byteVal 74 - 54 = 20 ∧ byteVal 0 - 22 < 20 ∧ byteVal 73 - 54 < 20 ∧
    20 < byteVal 43 - 22 ∧ 20 < byteVal 127 - 54 := by decide
theorem witness_TakesEffect : (motor70 .mOff 9 []).profile = .motor ∧ (motor70 .mOff 9 []).launched = true ∧
    (motor70 .mOff 9 []).script = [] ∧ Phase.fits .motor (motor70 .mOff 9 []).phase = true ∧
    (motor70 .mOff 9 []).rf.WellFormedFor .motor :=
  ⟨rfl, rfl, rfl, rfl,
    by show 10 ≤ regVal (regOf 16) ∧ regVal (regOf 16) ≤ 20 ∧ regVal (regOf 4) = 20 - regVal (regOf 16); decide⟩
theorem witness_DutySum_decoded : (127 : Byte).toNat < 128 ∧ ∃ t, exec (decode .motor 127) (motor70 .mOn 0 []) = .next t :=
  ⟨by decide, _, rfl⟩
theorem witness_DutySum_step : (motor70 .mOn 0 []).readReg .onDuration + (motor70 .mOn 0 []).readReg .offDuration = 20 ∧
    ∃ t, step (motor70 .mOn 0 []) = .next t := ⟨by decide, _, rfl⟩
theorem witness_OutputLevel : (∃ t, step (motor70 .mOn 0 [.byte 38]) = .next t) ∧
    (motor70 .mOn 0 [.byte 38]).readReg .outputLevel ≠ 0 := ⟨⟨_, rfl⟩, by decide⟩
theorem witness_ServoFrame : (servo52 .sX 0 []).due .sX ∧ (servo52 .sX 0 []).profile = .servo ∧ (servo52 .sX 0 []).script = [] ∧
    (servo52 .sX 0 []).readReg .xPulseCount = (5 : Nat) ∧ (servo52 .sX 0 []).readReg .yPulseCount = (2 : Nat) :=
  ⟨⟨rfl, rfl, rfl, rfl⟩, rfl, rfl, by decide⟩

end Sys2Proof.Tests
end

section
/-! SUPPORT. The decoder and the generator keep apart (R11): what each kind of step leaves unchanged. -/

namespace Sys2Proof.Machine

/-- A step that takes a byte consumes it and changes the register file, and nothing else (R41, R166). -/
theorem step_byte_eq {s t : State} {b : Byte} (hb : s.rxByte = some b) (h : step s = .next t) :
    ∃ rf, t = { s.takeSlot with rf := rf } := by
  rcases step_cases h with ⟨b', -, -, hexec⟩ | ⟨hn, -⟩ | ⟨hn, -⟩ | ⟨hn, -⟩
  · obtain ⟨rf, hrf⟩ := exec_next (decode s.profile b') s.takeSlot
    rw [hrf] at hexec
    injection hexec with ht
    exact ⟨rf, ht.symm⟩
  all_goals rw [hb] at hn; contradiction

/-- An initialisation call writes only an enable (R192). -/
@[simp] theorem State.initCall_rf (s : State) : s.initCall.rf = s.rf := by
  rcases s.initCall_cases with ⟨-, e⟩ | ⟨-, -, e⟩ | ⟨-, -, e⟩ <;> rw [e]

/-- The rule of whichever phase is due only reads its registers (R11). -/
@[simp] theorem State.phaseStart_rf (s : State) : s.phaseStart.rf = s.rf := by
  obtain ⟨-, -, hrf, -⟩ := s.phaseStart_frame
  exact hrf

/-- A step that takes no byte leaves the register file, before launch as after it. -/
theorem step_quiet_rf {s t : State} (hq : s.rxByte = none) (h : step s = .next t) : t.rf = s.rf := by
  rcases step_cases h with ⟨b, hb, -⟩ | ⟨-, -, rfl⟩ | ⟨-, -, -, rfl⟩ | ⟨-, -, -, rfl⟩
  · rw [hq] at hb; contradiction
  · rw [State.initCall_rf, State.takeSlot_rf]
  · rw [State.phaseStart_rf, State.takeSlot_rf]
  · rw [State.tick_rf, State.takeSlot_rf]

/-- Settles O22: the decoder's half by the form of a byte step, the generator's by the cases of a quiet step. -/
theorem decoderAndGeneratorKeepApart : Obligations.DecoderAndGeneratorKeepApart := by
  intro s t _ h
  constructor
  · intro b hb
    obtain ⟨rf, rfl⟩ := step_byte_eq hb h
    exact ⟨rfl, rfl, rfl, rfl, rfl⟩
  · intro hq
    exact step_quiet_rf hq h

end Sys2Proof.Machine
end

section
/-! SUPPORT. Reset and launch: the values of the register file, and the invariant of a run. -/

namespace Sys2Proof.Machine

@[simp] theorem RegFile.regVal_reset_onDuration : regVal RegFile.reset.onDuration = 10 := by decide
@[simp] theorem RegFile.regVal_reset_offDuration : regVal RegFile.reset.offDuration = 10 := by decide
@[simp] theorem RegFile.regVal_reset_outputLevel : regVal RegFile.reset.outputLevel = 0 := by decide
@[simp] theorem RegFile.regVal_reset_ledMask : regVal RegFile.reset.ledMask = 2 := by decide
@[simp] theorem RegFile.regVal_reset_xPulseCount : regVal RegFile.reset.xPulseCount = 0 := by decide
@[simp] theorem RegFile.regVal_reset_yPulseCount : regVal RegFile.reset.yPulseCount = 0 := by decide

/-- Settles O1: the registers by their reset values, every other field as `State.resetFor` writes it. -/
theorem resetLoadsSafeDefaults : Obligations.ResetLoadsSafeDefaults := by
  intro p g
  refine ⟨RegFile.regVal_reset_onDuration, RegFile.regVal_reset_offDuration, RegFile.regVal_reset_outputLevel,
    RegFile.regVal_reset_ledMask, RegFile.regVal_reset_xPulseCount, RegFile.regVal_reset_yPulseCount,
    rfl, rfl, rfl, rfl, rfl, ?_, rfl, rfl, rfl⟩
  cases p <;> rfl

/-- The defaults are reachable register values of either profile. -/
theorem RegFile.reset_reach (p : Profile) : RegFile.reset.Reach p := by
  cases p with
  | motor => exact ⟨.inr rfl, by simp, .inl ⟨rfl, by simp⟩, rfl, rfl⟩
  | servo => exact ⟨by simp, by simp, rfl, rfl, rfl, rfl⟩

theorem Phase.first_fits (p : Profile) : Phase.fits p (Phase.first p) = true := by
  cases p <;> rfl

/-- A state that differs from reset only in the enables and the script has the invariant, when the enables are set in
R192's order. -/
theorem State.inv_of_reset (p : Profile) (g : OffGuard) (l : List Slot) {out rx gl : Bool}
    (hg : gl = true → rx = true) (hr : rx = true → out = true) :
    State.Inv { State.resetFor p g with busOutEn := out, rxIe := rx, gIe := gl, script := l } where
  regs := RegFile.reset_reach p
  phase_fits := Phase.first_fits p
  bus_last := rfl
  bus_value := fun _ hv => nomatch hv
  undriven := fun _ => ⟨rfl, rfl⟩
  boot_order := ⟨hg, hr⟩
  before_launch := fun _ => ⟨rfl, rfl, rfl, rfl, rfl⟩

/-- Settles O48: reset is the case of no enable, launch that of all three. -/
theorem invariantHoldsAtReset : Obligations.InvariantHoldsAtReset := by
  intro p g l
  exact ⟨State.inv_of_reset p g l (fun h => h) (fun h => h), State.inv_of_reset p g l (fun h => h) (fun h => h)⟩

end Sys2Proof.Machine
end

section
/-! SUPPORT. The decoder step: a received byte acts by the closed form of its profile's decoder (R90, R100). -/

namespace Sys2Proof.Machine

/-- Settles O18: the byte is at the port, both receive enables are 1, and `takeSlot` leaves the rest of the script. -/
theorem stepRunsTheReceivedCommand : Obligations.StepRunsTheReceivedCommand := by
  intro s b rest hscript hrx hg
  have hbyte : s.rxByte = some b := by simp [State.rxByte, hscript]
  have henabled : s.rxEnabled = true := by simp [State.rxEnabled, hrx, hg]
  rw [step_byte hbyte, if_pos henabled, State.takeSlot, hscript, List.tail_cons]

/-- `LED_TOGGLE`'s test on the register's value is one on its bits (R91). -/
theorem regVal_eq_two_iff (r : Reg) : regVal r = 2 ↔ r = 2 :=
  BitVec.toInt_inj (x := r) (y := 2)

/-- Everything `LED_TOGGLE` does (R91). -/
theorem exec_ledToggle (k : Int) (s : State) : exec (.ledToggle k) s =
    .next { s with rf := { s.rf with ledMask := if s.rf.ledMask = 2 then 0 else 2 } } := by
  show Host.Outcome.next (s.writeReg .ledMask (if regVal s.rf.ledMask = 2 then 0 else 2)) = _
  by_cases hled : s.rf.ledMask = 2
  · rw [if_pos hled, if_pos ((regVal_eq_two_iff _).2 hled)]; rfl
  · rw [if_neg hled, if_neg (mt (regVal_eq_two_iff _).1 hled)]; rfl

/-- Everything `REVERSE` does (R92). -/
theorem exec_reverse (m : Int) (s : State) : exec (.reverse m) s =
    .next { s with rf := { s.rf with
      outputLevel := 5, onDuration := regOf (m + 10), offDuration := regOf (20 - (m + 10)) } } := rfl

/-- Everything `FORWARD` does (R93). -/
theorem exec_forward (m : Int) (s : State) : exec (.forward m) s =
    .next { s with rf := { s.rf with
      outputLevel := 9, onDuration := regOf (m + 10), offDuration := regOf (20 - (m + 10)) } } := rfl

/-- Everything `X_AXIS` does, in its high form (R101). -/
theorem exec_xAxisHigh (m : Int) (s : State) : exec (.xAxisHigh m) s =
    .next { s with rf := { s.rf with xPulseCount := regOf (10 - m) } } := rfl

/-- Everything `X_AXIS` does, in its low form (R101). -/
theorem exec_xAxisLow (m : Int) (s : State) : exec (.xAxisLow m) s =
    .next { s with rf := { s.rf with xPulseCount := regOf (10 - m) } } := rfl

/-- Everything `Y_AXIS` does (R102). -/
theorem exec_yAxis (m : Int) (s : State) : exec (.yAxis m) s =
    .next { s with rf := { s.rf with yPulseCount := regOf (10 - m) } } := rfl

/-- `IGNORED` leaves the state as it is (R103). -/
theorem exec_ignored (k : Int) (s : State) : exec (.ignored k) s = .next s := rfl

/-- The motor profile's part of `exec_decode`: a case per band of R76. -/
theorem exec_decodeMotor (b : Byte) (s : State) :
    exec (decodeMotor b) s = .next { s with rf := byteEffect .motor b s.rf } := by
  have hv : byteVal b = b.toNat := rfl
  rcases decodeMotor_cases b with ⟨hlo, e⟩ | ⟨hlo, hhi, e⟩ | ⟨hhi, e⟩
  · have h128 : 128 ≤ b.toNat := by omega
    simp only [e, exec_ledToggle, byteEffect, h128, if_true]
  · have h128 : ¬ 128 ≤ b.toNat := by omega
    have h64 : 64 ≤ b.toNat := by omega
    have hon : byteVal b - 64 + 10 = byteVal b - 54 := by omega
    have hoff : 20 - (byteVal b - 54) = 74 - byteVal b := by omega
    simp only [e, exec_reverse, byteEffect, h128, h64, hon, hoff, if_true, if_false]
  · have h128 : ¬ 128 ≤ b.toNat := by omega
    have h64 : ¬ 64 ≤ b.toNat := by omega
    have hon : byteVal b - 32 + 10 = byteVal b - 22 := by omega
    have hoff : 20 - (byteVal b - 22) = 42 - byteVal b := by omega
    simp only [e, exec_forward, byteEffect, h128, h64, hon, hoff, if_false]

/-- The servo profile's part of `exec_decode`: a case per band of R77. -/
theorem exec_decodeServo (b : Byte) (s : State) :
    exec (decodeServo b) s = .next { s with rf := byteEffect .servo b s.rf } := by
  have hv : byteVal b = b.toNat := rfl
  have hx : 10 - (byteVal b - 64) = 74 - byteVal b := by omega
  have hy : 10 - (byteVal b - 32) = 42 - byteVal b := by omega
  rcases decodeServo_cases b with ⟨hlo, e⟩ | ⟨hlo, hhi, e⟩ | ⟨hlo, hhi, e⟩ | ⟨hhi, e⟩
  · have h64 : 64 ≤ b.toNat := by omega
    simp only [e, exec_xAxisHigh, byteEffect, h64, hx, if_true]
  · have h64 : 64 ≤ b.toNat := by omega
    simp only [e, exec_xAxisLow, byteEffect, h64, hx, if_true]
  · have h64 : ¬ 64 ≤ b.toNat := by omega
    have h32 : 32 ≤ b.toNat := by omega
    simp only [e, exec_yAxis, byteEffect, h64, h32, hy, if_true, if_false]
  · have h64 : ¬ 64 ≤ b.toNat := by omega
    have h32 : ¬ 32 ≤ b.toNat := by omega
    simp only [e, exec_ignored, byteEffect, h64, h32, if_false]

/-- The decoder step of a byte is the byte's closed form on the register file (R90, R100). -/
theorem exec_decode (p : Profile) (b : Byte) (s : State) :
    exec (decode p b) s = .next { s with rf := byteEffect p b s.rf } := by
  cases p with
  | motor => exact exec_decodeMotor b s
  | servo => exact exec_decodeServo b s

/-- A step that takes a byte: the closed form on the register file, the slot taken (R41, R166). -/
theorem step_byte_enabled {s : State} {b : Byte} (hb : s.rxByte = some b) (he : s.rxEnabled = true) :
    step s = .next { s.takeSlot with rf := byteEffect s.profile b s.rf } := by
  rw [step_byte hb, if_pos he, exec_decode, State.takeSlot_rf]

/-- A step writes the register file only by the closed form of a received byte (R11). -/
theorem step_rf {s t : State} (h : step s = .next t) :
    t.rf = s.rf ∨ ∃ b, s.rxByte = some b ∧ t.rf = byteEffect s.profile b s.rf := by
  rcases hrx : s.rxByte with _ | b
  · exact .inl (step_quiet_rf hrx h)
  · rw [step_byte hrx, exec_decode] at h
    split at h
    · injection h with h
      exact .inr ⟨b, rfl, by rw [← h, State.takeSlot_rf]⟩
    · contradiction

/-- The levels a byte can write (R92, R93): none is the idle level. -/
theorem byteEffect_outputLevel (p : Profile) (b : Byte) (rf : RegFile) :
    (byteEffect p b rf).outputLevel = rf.outputLevel ∨ (byteEffect p b rf).outputLevel = 5 ∨
      (byteEffect p b rf).outputLevel = 9 := by
  cases p <;> simp only [byteEffect]
  case motor =>
    split
    · exact .inl rfl
    split
    · exact .inr (.inl rfl)
    · exact .inr (.inr rfl)
  case servo =>
    split
    · exact .inl rfl
    split <;> exact .inl rfl

/-- Settles O42: only a byte writes the register file, and it leaves `outputLevel` or writes 5 or 9. -/
theorem outputLevelNeverIdleAgain : Obligations.OutputLevelNeverIdleAgain := by
  intro s t h hs
  show regVal t.rf.outputLevel ≠ 0
  rcases step_rf h with hrf | ⟨b, -, hrf⟩ <;> rw [hrf]
  · exact hs
  · rcases byteEffect_outputLevel s.profile b s.rf with e | e | e <;> rw [e]
    · exact hs
    · decide
    · decide

end Sys2Proof.Machine
end

section
/-! SUPPORT. The core's own step: what a phase start writes, and that it does not look at the host's script (R31, R41). -/

namespace Sys2Proof.Machine

/-- A phase start moves `phase` to the next of the cycle, skipped or not, and writes nothing else but the bus, the timer,
the trace and the count of draws (R31, R121). -/
theorem State.phaseStart_writes (s : State) : ∃ bus cnt trace draws, s.phaseStart =
    { s with phase := s.phase.next, bus := bus, cnt := cnt, trace := trace, draws := draws } := by
  unfold State.phaseStart
  rcases hp : s.phase with _ | _ | _ | _ | _
  · simp only [State.startMOn_eq]
    split <;> exact ⟨_, _, _, _, rfl⟩
  · simp only [State.startMOff_eq]
    split <;> exact ⟨_, _, _, _, rfl⟩
  · exact ⟨_, _, _, _, State.pulsePhase_eq ..⟩
  · exact ⟨_, _, _, _, State.pulsePhase_eq ..⟩
  · exact ⟨_, _, _, _, State.startSIdle_eq s⟩

@[simp] theorem State.phaseStart_phase (s : State) : s.phaseStart.phase = s.phase.next := by
  obtain ⟨_, _, _, _, e⟩ := s.phaseStart_writes
  rw [e]

@[simp] theorem State.initCall_phase (s : State) : s.initCall.phase = s.phase := by
  rcases s.initCall_cases with ⟨-, e⟩ | ⟨-, -, e⟩ | ⟨-, -, e⟩ <;> rw [e]

/-- Settles O25: by the cases of a step, of which the phase start alone writes `phase`. -/
theorem phaseAdvancesOnlyAtPhaseStarts : Obligations.PhaseAdvancesOnlyAtPhaseStarts := by
  intro s t h
  rcases step_cases h with ⟨b, hb, -⟩ | ⟨-, hl, rfl⟩ | ⟨hq, hl, hc, rfl⟩ | ⟨-, -, hc, rfl⟩
  · obtain ⟨rf, rfl⟩ := step_byte_eq hb h
    exact ⟨fun ⟨_, hq, _⟩ => by rw [hb] at hq; contradiction, fun _ => rfl⟩
  · exact ⟨fun ⟨hl', _⟩ => by rw [hl] at hl'; contradiction, fun _ => State.initCall_phase _⟩
  · exact ⟨fun _ => State.phaseStart_phase _, fun hn => absurd ⟨hl, hq, hc⟩ hn⟩
  · exact ⟨fun ⟨_, _, hc'⟩ => by omega, fun _ => rfl⟩

@[simp] theorem State.withScript_phase (s : State) (l : List Slot) : (s.withScript l).phase = s.phase := rfl

/-- A phase start neither reads nor writes the script (log 2). -/
theorem State.phaseStart_withScript (s : State) (l : List Slot) :
    (s.withScript l).phaseStart = s.phaseStart.withScript l := by
  unfold State.phaseStart
  rw [State.withScript_phase]
  rcases s.phase with _ | _ | _ | _ | _
  · rw [State.startMOn_eq, State.startMOn_eq, apply_ite (State.withScript · l)]
    rfl
  · rw [State.startMOff_eq, State.startMOff_eq, apply_ite (State.withScript · l)]
    rfl
  · exact (State.pulsePhase_eq ..).trans (congrArg (State.withScript · l) (State.pulsePhase_eq ..).symm)
  · exact (State.pulsePhase_eq ..).trans (congrArg (State.withScript · l) (State.pulsePhase_eq ..).symm)
  · exact (State.startSIdle_eq _).trans (congrArg (State.withScript · l) s.startSIdle_eq.symm)

/-- The step relation's half of O21: a step of a launched core is one of the relation's, whatever the host does. -/
theorem coreStep_of_step {s t : State} (hl : s.launched = true) (h : step s = .next t) :
    CoreStep (s.withScript []) (t.withScript []) := by
  rcases step_cases h with ⟨b, hb, he, -⟩ | ⟨-, hn, -⟩ | ⟨-, -, hc, rfl⟩ | ⟨-, -, hc, rfl⟩
  · rw [step_byte_enabled hb he] at h
    injection h with h
    rw [← h]
    exact .decode (s.withScript []) b
  · rw [hl] at hn; contradiction
  · have e : s.takeSlot.phaseStart.withScript [] = (s.withScript []).phaseStart :=
      (State.phaseStart_withScript s.takeSlot []).symm
    rw [e]
    exact .phaseStart (s.withScript []) hc
  · exact .tick (s.withScript []) hc

/-- The other half: a step of the relation is taken when the next slot holds its byte, or none. -/
theorem step_of_coreStep {s t : State} (hl : s.launched = true) (h : CoreStep s t) :
    ∃ x, step (s.withScript (x :: s.script)) = .next t := by
  cases h with
  | decode b =>
    have he : s.rxEnabled = true := by
      simp only [State.launched, Bool.and_eq_true] at hl
      obtain ⟨⟨-, hrx⟩, hg⟩ := hl
      rw [State.rxEnabled, hrx, hg]; rfl
    exact ⟨.byte b, step_byte_enabled rfl he⟩
  | phaseStart hc =>
    have ha : s.advance = s.phaseStart := by rw [State.advance, if_pos hl, State.generate, if_pos hc]
    exact ⟨.idle, ha ▸ step_quiet rfl⟩
  | tick hc =>
    have ha : s.advance = s.tick := by rw [State.advance, if_pos hl, State.generate, if_neg (by omega)]
    exact ⟨.idle, ha ▸ step_quiet rfl⟩

/-- Settles O21: the two inclusions, and the frames of a phase start and of a tick. -/
theorem stepsAreExactlyTheStepRelation : Obligations.StepsAreExactlyTheStepRelation := by
  refine ⟨fun _ _ => coreStep_of_step, fun _ _ => step_of_coreStep, fun s => ⟨?_, rfl⟩⟩
  obtain ⟨_, _, _, _, e⟩ := s.phaseStart_writes
  rw [e]

end Sys2Proof.Machine
end

section
/-! SUPPORT. The pins (R33, R35): every value a generator drives is one that `BUS_W` bits hold. -/

namespace Sys2Proof.Machine

/-- `BUS_W` is at least 4 (R7, D4). -/
theorem sixteen_le_two_pow_busW : 16 ≤ 2 ^ Config.busW :=
  Nat.pow_le_pow_right (i := 4) Nat.two_pos (Nat.le_add_right ..)

theorem selectLevel_range (v : BitVec Config.busW) :
    0 ≤ selectLevel v ∧ selectLevel v < (2 ^ Config.busW : Nat) :=
  ⟨Int.natCast_nonneg _, Int.ofNat_lt.2 v.isLt⟩

/-- The motor levels reach 11 (R127) and the select levels have `BUS_W` bits (R147). -/
theorem drivable_range {p : Profile} {v : Int} (h : drivable p v) : 0 ≤ v ∧ v < (2 ^ Config.busW : Nat) := by
  cases p with
  | motor =>
    have hw := sixteen_le_two_pow_busW
    rcases h with h | h | h | h | h | h <;> omega
  | servo => rcases h with rfl | rfl | rfl <;> exact selectLevel_range _

theorem toNat_ofInt_busW {v : Int} (h₀ : 0 ≤ v) (h₁ : v < (2 ^ Config.busW : Nat)) :
    ((BitVec.ofInt Config.busW v).toNat : Int) = v := by
  rw [BitVec.toNat_ofInt, Int.emod_eq_of_lt h₀ h₁, Int.toNat_of_nonneg h₀]

/-- Settles O50: in a state of a run the bus value is drivable, so the pins cut nothing off. -/
theorem pinsCarryTheBusValue : Obligations.PinsCarryTheBusValue := by
  intro s hinv
  refine ⟨fun hout => by simp [State.busOut, hout], fun v hout hbus => ?_⟩
  obtain ⟨h₀, h₁⟩ := drivable_range (hinv.bus_value v hbus)
  exact ⟨BitVec.ofInt Config.busW v, by simp [State.busOut, hout, hbus], toNat_ofInt_busW h₀ h₁⟩

end Sys2Proof.Machine
end

section
/-! SUPPORT. A launched core whose host stays silent: phases, holds and cycles as whole states (R39, R41, R112). -/

namespace Sys2Proof.Machine

theorem State.rxByte_of_silent {s : State} (hs : s.script = []) : s.rxByte = none := by simp [State.rxByte, hs]

theorem State.takeSlot_of_silent {s : State} (hs : s.script = []) : s.takeSlot = s := by
  cases s; cases hs; rfl

theorem step_silent {s : State} (hl : s.launched = true) (hs : s.script = []) : step s = .next s.generate := by
  rw [step_quiet (State.rxByte_of_silent hs), State.takeSlot_of_silent hs, State.advance, if_pos hl]

theorem step_silent_phaseStart {s : State} (hl : s.launched = true) (hs : s.script = []) (hc : s.cnt = 0) :
    step s = .next s.phaseStart := by
  rw [step_silent hl hs, State.generate, if_pos hc]

theorem step_silent_tick {s : State} (hl : s.launched = true) (hs : s.script = []) (hc : 0 < s.cnt) :
    step s = .next s.tick := by
  rw [step_silent hl hs, State.generate, if_neg (by omega)]

/-- A hold of `n` runs down in `n` ticks (R111, R112). -/
theorem run_silent_hold (n : Nat) {s : State} (hl : s.launched = true) (hs : s.script = []) (hn : s.cnt = n) :
    run n s = .next { s with cnt := 0, trace := s.trace ++ List.replicate n .tick } := by
  induction n generalizing s with
  | zero =>
    have e : { s with cnt := 0, trace := s.trace ++ [] } = s := by rw [List.append_nil, ← hn]
    exact congrArg Host.Outcome.next e.symm
  | succ n ih =>
    rw [run_succ_next (step_silent_tick hl hs (by omega)), ih (s := s.tick) hl hs (by rw [State.tick_cnt, hn]; rfl)]
    simp [State.tick, List.replicate_succ]

/-- A phase that drives `v` and loads `n` runs through in `n + 1` steps, its start and its ticks (R41, R112). -/
theorem run_silent_phase {s : State} {v : Int} {n : Nat} {p : Phase} (hl : s.launched = true) (hs : s.script = [])
    (hc : s.cnt = 0)
    (he : s.phaseStart = { s with bus := some v, trace := s.trace ++ [.drive v], cnt := n, phase := p }) :
    run (n + 1) s = .next { s with bus := some v, trace := s.trace ++ phaseTrace v n, cnt := 0, phase := p } := by
  rw [run_succ_next (step_silent_phaseStart hl hs hc), he,
    run_silent_hold n (s := { s with bus := some v, trace := s.trace ++ [.drive v], cnt := n, phase := p }) hl hs rfl]
  simp [phaseTrace]

/-- A cycle that can be repeated from any bus value and trace is repeated `n` times. -/
theorem run_cycles {s : State} {k : Nat} {v : Int} {c : List Event}
    (h : ∀ bus trace, run k { s with bus := bus, trace := trace } =
      .next { s with bus := some v, trace := trace ++ c }) (n : Nat) :
    run (n * k) s = .next { s with bus := if n = 0 then s.bus else some v, trace := s.trace ++ cycles n c } := by
  induction n with
  | zero => simp [cycles]
  | succ n ih =>
    rw [Nat.succ_mul, run_add ih, h]
    simp [cycles, List.replicate_succ']

/-- The start of an on-phase at neutral, which is skipped (R122). -/
theorem State.startMOn_neutral {s : State} (h : s.readReg .onDuration = 10) :
    s.startMOn = { s with phase := .mOff } := by
  rw [State.startMOn_eq, if_pos h]

/-- The start of an off-phase that runs, with a count that needs no draw (R123, R112). -/
theorem State.startMOff_nonneg {s : State}
    (hg : offGuardHolds s.offGuard (s.readReg .onDuration) (s.readReg .offDuration) = true)
    (h : 0 ≤ s.readReg .offDuration) :
    s.startMOff = { s with
      bus := some (s.readReg .ledMask)
      trace := s.trace ++ [.drive (s.readReg .ledMask)]
      cnt := (s.readReg .offDuration).toNat
      phase := .mOn } := by
  have hn : ¬ s.readReg .offDuration < 0 := by omega
  rw [State.startMOff_eq, if_pos hg, State.holdTicks_nonneg _ _ h, Nat.one_mul, if_neg hn]

/-- A pulse phase with a count that needs no draw (R142, R143, R112). -/
theorem State.pulsePhase_nonneg (s : State) (v : Int) {c : Int} (p : Phase) (h : 0 ≤ c) :
    ((s.busWrite v).loadPulse c).setPhase p =
      { s with bus := some v, trace := s.trace ++ [.drive v], cnt := 55 + 18 * c.toNat, phase := p } := by
  have hn : ¬ c < 0 := by omega
  rw [State.pulsePhase_eq, State.holdTicks_nonneg _ _ h, if_neg hn]

end Sys2Proof.Machine
end

section
/-! SUPPORT. The idle waveform (R39): the phases and the cycle of the reset values, in either profile. -/

namespace Sys2Proof.Machine

/-- The launched core with the registers of reset, at a phase start, with any bus value and trace. -/
def State.idleAt (p : Profile) (g : OffGuard) (ph : Phase) (bus : Option Int) (trace : List Event) : State :=
  { State.launchFor p g with phase := ph, bus := bus, trace := trace }

/-- `run_silent_phase` from and to a phase start with the registers of reset. -/
theorem run_idle_phase {p : Profile} {g : OffGuard} {ph q : Phase} {bus : Option Int} {trace : List Event} {v : Int}
    {n : Nat} (he : (State.idleAt p g ph bus trace).phaseStart =
      { State.idleAt p g q (some v) (trace ++ [.drive v]) with cnt := n }) :
    run (n + 1) (State.idleAt p g ph bus trace) = .next (State.idleAt p g q (some v) (trace ++ phaseTrace v n)) :=
  run_silent_phase rfl rfl rfl he

/-- The motor cycle of the reset values: the on-phase is skipped, the off-phase drives 2 and holds 10 ticks (R39). -/
theorem run_idle_motor_cycle (g : OffGuard) (bus : Option Int) (trace : List Event) :
    run 12 (State.idleAt .motor g .mOn bus trace) =
      .next (State.idleAt .motor g .mOn (some 2) (trace ++ phaseTrace 2 10)) := by
  have hskip : step (State.idleAt .motor g .mOn bus trace) = .next (State.idleAt .motor g .mOff bus trace) :=
    (step_silent_phaseStart rfl rfl rfl).trans
      (congrArg Host.Outcome.next (State.startMOn_neutral RegFile.regVal_reset_onDuration))
  have hguard : offGuardHolds g (regVal RegFile.reset.onDuration) (regVal RegFile.reset.offDuration) = true := by
    cases g <;> decide
  have hoff : (State.idleAt .motor g .mOff bus trace).phaseStart =
      { State.idleAt .motor g .mOn (some 2) (trace ++ [.drive 2]) with cnt := 10 } :=
    State.startMOff_nonneg (s := State.idleAt .motor g .mOff bus trace) hguard
      (show 0 ≤ regVal RegFile.reset.offDuration by decide)
  rw [run_succ_next hskip]
  exact run_idle_phase hoff

/-- The servo cycle of the reset values: the two counts of 0 hold the buffer alone, the idle phase 1000 ticks (R39). -/
theorem run_idle_servo_cycle (g : OffGuard) (bus : Option Int) (trace : List Event) :
    run 1113 (State.idleAt .servo g .sX bus trace) =
      .next (State.idleAt .servo g .sX (some (selectLevel Config.idleSel))
        (trace ++ (phaseTrace (selectLevel Config.xSel) 55 ++ phaseTrace (selectLevel Config.ySel) 55 ++
          phaseTrace (selectLevel Config.idleSel) 1000))) := by
  have hx (bus trace) : (State.idleAt .servo g .sX bus trace).phaseStart =
      { State.idleAt .servo g .sY (some (selectLevel Config.xSel)) (trace ++ [.drive (selectLevel Config.xSel)]) with
        cnt := 55 } := State.pulsePhase_nonneg _ _ _ RegFile.regVal_reset_xPulseCount.ge
  have hy (bus trace) : (State.idleAt .servo g .sY bus trace).phaseStart =
      { State.idleAt .servo g .sIdle (some (selectLevel Config.ySel)) (trace ++ [.drive (selectLevel Config.ySel)]) with
        cnt := 55 } := State.pulsePhase_nonneg _ _ _ RegFile.regVal_reset_yPulseCount.ge
  have hidle (bus trace) : (State.idleAt .servo g .sIdle bus trace).phaseStart =
      { State.idleAt .servo g .sX (some (selectLevel Config.idleSel)) (trace ++ [.drive (selectLevel Config.idleSel)]) with
        cnt := 1000 } := State.startSIdle_eq _
  show run (55 + 1 + (55 + 1 + (1000 + 1))) _ = _
  rw [run_add (run_idle_phase (hx ..)), run_add (run_idle_phase (hy ..)), run_idle_phase (hidle ..)]
  simp only [List.append_assoc]

/-- Settles O3: one cycle from any bus value and trace, repeated. -/
theorem idleWaveformRepeatsForever : Obligations.IdleWaveformRepeatsForever :=
  ⟨fun g n => run_cycles (s := State.launchFor .motor g) (run_idle_motor_cycle g) n,
    fun g n => run_cycles (s := State.launchFor .servo g) (run_idle_servo_cycle g) n⟩

end Sys2Proof.Machine
end

section
/-! SUPPORT. A hold with bytes between its ticks (R59, R111): the run of a launched core as a whole state. -/

namespace Sys2Proof.Machine

/-- How many of the next `k` step boundaries bring no byte; within a hold these are its ticks (R41). -/
def State.quietSlots (s : State) (k : Nat) : Nat := k - (s.script.take k).countP Slot.isByte

@[simp] theorem State.quietSlots_zero (s : State) : s.quietSlots 0 = 0 := Nat.zero_sub _

/-- A byte in the first slot leaves the quiet slots to the later ones. -/
theorem State.quietSlots_succ_byte {s : State} {b : Byte} (hb : s.rxByte = some b) (k : Nat) :
    s.quietSlots (k + 1) = s.takeSlot.quietSlots k := by
  rcases hs : s.script with _ | ⟨_ | _, l⟩
  case cons.byte => simp [State.quietSlots, hs, List.countP_cons, Slot.isByte]
  all_goals simp [State.rxByte, hs] at hb

/-- No byte in the first slot: it is one quiet slot more, written out or past the script's end (log 2). -/
theorem State.quietSlots_succ_quiet {s : State} (hq : s.rxByte = none) (k : Nat) :
    s.quietSlots (k + 1) = s.takeSlot.quietSlots k + 1 := by
  rcases hs : s.script with _ | ⟨_ | _, l⟩
  case nil => simp [State.quietSlots, hs]
  case cons.byte => simp [State.rxByte, hs] at hq
  case cons.idle =>
    have hle : (l.take k).countP Slot.isByte ≤ k := List.countP_le_length.trans (List.length_take_le k l)
    simp [State.quietSlots, hs, Slot.isByte, Nat.sub_add_comm hle]

/-- A launched core takes bytes (R35, R193). -/
theorem State.rxEnabled_of_launched {s : State} (hl : s.launched = true) : s.rxEnabled = true := by
  simp only [State.launched, Bool.and_eq_true] at hl
  obtain ⟨⟨-, hrx⟩, hg⟩ := hl
  simp [State.rxEnabled, hrx, hg]

/-- Within a hold the core's own step is a tick (R41). -/
theorem step_tick {s : State} (hl : s.launched = true) (hq : s.rxByte = none) (hc : 0 < s.cnt) :
    step s = .next s.takeSlot.tick := by
  have hL : s.takeSlot.launched = true := hl
  rw [step_quiet hq, State.advance, if_pos hL, State.generate, if_neg (by simp only [State.takeSlot_cnt]; omega)]

/-- A hold that outlasts `k` steps: the quiet slots are its ticks, and the bytes write the register file alone. -/
theorem run_hold (k : Nat) {s : State} (hl : s.launched = true) (hk : s.quietSlots k ≤ s.cnt) :
    ∃ rf, run k s = .next { s with
      rf := rf
      cnt := s.cnt - s.quietSlots k
      trace := s.trace ++ List.replicate (s.quietSlots k) .tick
      script := s.script.drop k } := by
  induction k generalizing s with
  | zero => exact ⟨s.rf, by simp⟩
  | succ k ih =>
    rcases hrx : s.rxByte with _ | b
    · rw [State.quietSlots_succ_quiet hrx] at hk ⊢
      obtain ⟨rf, hrun⟩ := ih (s := s.takeSlot.tick) hl (Nat.le_sub_of_add_le hk)
      rw [run_succ_next (step_tick hl hrx (by omega)), hrun]
      exact ⟨rf, by simp [State.tick, State.takeSlot, State.quietSlots, List.replicate_succ, Nat.sub_right_comm s.cnt 1,
        Nat.sub_add_eq]⟩
    · rw [State.quietSlots_succ_byte hrx] at hk ⊢
      rw [run_succ_next (step_byte_enabled hrx (State.rxEnabled_of_launched hl))]
      obtain ⟨rf, hrun⟩ := ih (s := { s.takeSlot with rf := byteEffect s.profile b s.rf }) hl hk
      rw [hrun]
      exact ⟨rf, by simp [State.takeSlot, State.quietSlots]⟩

/-- Settles O29: the fields of the state that `run_hold` gives. -/
theorem holdUndisturbedByCommands : Obligations.HoldUndisturbedByCommands := by
  intro s k hl ticks hk
  obtain ⟨rf, hrun⟩ := run_hold k hl hk
  exact ⟨_, hrun, rfl, rfl, rfl, rfl, rfl⟩

end Sys2Proof.Machine
end

section
/-! SUPPORT. Commands in sequence (R57, R58): a command of the same registers leaves nothing of the one before it. -/

namespace Sys2Proof.Machine

/-- The three duty registers are written whole, whatever they held (R52, R58). -/
@[simp] theorem State.setDuty_setDuty (s : State) (l l' m m' : Int) :
    (s.setDuty l m).setDuty l' m' = s.setDuty l' m' := rfl

@[simp] theorem RegFile.write_write_same (rf : RegFile) (n : RegName) (v w : Reg) :
    (rf.write n v).write n w = rf.write n w := by
  cases n <;> rfl

/-- A pulse count is written whole, whatever it held (R52, R58). -/
@[simp] theorem State.setCount_setCount (s : State) (n : RegName) (m m' : Int) :
    (s.setCount n m).setCount n m' = s.setCount n m' := by
  simp [State.setCount, State.writeReg]

/-- `REVERSE` and `FORWARD` differ in the level alone (R92, R93). -/
theorem exec_direction {i : Instr} (h : ∃ m, i = .reverse m ∨ i = .forward m) :
    ∃ level m, ∀ s, exec i s = .next (s.setDuty level m) := by
  obtain ⟨m, rfl | rfl⟩ := h
  · exact ⟨5, m, fun _ => rfl⟩
  · exact ⟨9, m, fun _ => rfl⟩

/-- The two forms of `X_AXIS` have one effect (R101). -/
theorem exec_xAxis {i : Instr} (h : ∃ m, i = .xAxisHigh m ∨ i = .xAxisLow m) :
    ∃ m, ∀ s, exec i s = .next (s.setCount .xPulseCount m) := by
  obtain ⟨m, rfl | rfl⟩ := h <;> exact ⟨m, fun _ => rfl⟩

/-- When what `j` does forgets what `i` did, executing `j` after `i` is executing `j` alone. -/
theorem exec_after_of_absorbs {i j : Instr} {f g : State → State} (hi : ∀ s, exec i s = .next (f s))
    (hj : ∀ s, exec j s = .next (g s)) (hgf : ∀ s, g (f s) = g s) {s t : State} (h : exec i s = .next t) :
    exec j t = exec j s := by
  rw [hi] at h
  injection h with h
  rw [← h, hj, hj, hgf]

/-- Settles O16: each command is one `setDuty` or `setCount`, of which the later is left. -/
theorem lastCommandWins : Obligations.LastCommandWins := by
  refine ⟨fun i j s t hi hj => ?_, fun i j s t hi hj => ?_, fun m n s t => ?_⟩
  · obtain ⟨l, m, ei⟩ := exec_direction hi
    obtain ⟨l', m', ej⟩ := exec_direction hj
    exact exec_after_of_absorbs ei ej fun s => s.setDuty_setDuty l l' m m'
  · obtain ⟨m, ei⟩ := exec_xAxis hi
    obtain ⟨m', ej⟩ := exec_xAxis hj
    exact exec_after_of_absorbs ei ej fun s => s.setCount_setCount .xPulseCount m m'
  · have e (m : Int) (s : State) : exec (.yAxis m) s = .next (s.setCount .yPulseCount m) := rfl
    exact exec_after_of_absorbs (e m) (e n) fun s => s.setCount_setCount .yPulseCount m n

end Sys2Proof.Machine
end

section
/-! SUPPORT. The encoding: the bands of R76 and R77 read forwards, the decoder as inverse of the encoder, and the
bit patterns of R72 and R73 kept apart. -/

namespace Sys2Proof

open Sys2Proof.Machine

theorem decode_ledToggle {b : Byte} (h : 128 ≤ byteVal b) : decode .motor b = .ledToggle (byteVal b - 128) :=
  if_pos h

theorem decode_reverse {b : Byte} (h₁ : 64 ≤ byteVal b) (h₂ : byteVal b < 128) :
    decode .motor b = .reverse (byteVal b - 64) :=
  (if_neg h₂.not_ge).trans (if_pos h₁)

theorem decode_forward {b : Byte} (h : byteVal b < 64) : decode .motor b = .forward (byteVal b - 32) :=
  (if_neg (show ¬ 128 ≤ byteVal b by omega)).trans (if_neg h.not_ge)

theorem decode_xAxisHigh {b : Byte} (h : 128 ≤ byteVal b) : decode .servo b = .xAxisHigh (byteVal b - 64) :=
  (if_pos (show 64 ≤ byteVal b by omega)).trans (if_pos h)

theorem decode_xAxisLow {b : Byte} (h₁ : 64 ≤ byteVal b) (h₂ : byteVal b < 128) :
    decode .servo b = .xAxisLow (byteVal b - 64) :=
  (if_pos h₁).trans (if_neg h₂.not_ge)

theorem decode_yAxis {b : Byte} (h₁ : 32 ≤ byteVal b) (h₂ : byteVal b < 64) :
    decode .servo b = .yAxis (byteVal b - 32) :=
  (if_neg h₂.not_ge).trans (if_pos h₁)

theorem decode_ignored {b : Byte} (h : byteVal b < 32) : decode .servo b = .ignored (byteVal b) :=
  (if_neg (show ¬ 64 ≤ byteVal b by omega)).trans (if_neg h.not_ge)

/-- The laws of the seven commands as one (R72, R73). -/
theorem tableBits (i : Instr) : Laws.TableBits.Statement i := by
  cases i with
  | ledToggle k => exact Laws.TableBits.ledToggle k
  | reverse m => exact Laws.TableBits.reverse m
  | forward m => exact Laws.TableBits.forward m
  | xAxisHigh m => exact Laws.TableBits.xAxisHigh m
  | xAxisLow m => exact Laws.TableBits.xAxisLow m
  | yAxis m => exact Laws.TableBits.yAxis m
  | ignored k => exact Laws.TableBits.ignored k

/-- The operand ranges keep tag base plus operand within a byte (R75, R81). -/
theorem byteVal_encode {i : Instr} (h : i.wf = true) : byteVal (encode i) = encodeVal i := by
  obtain ⟨-, -, hv⟩ := tableBits i h
  exact hv

/-- The operand range of a command puts its byte in the command's band, where the decoder subtracts the tag base that
the encoder added (R74, R81). -/
theorem decode_of_byteVal_eq {i : Instr} {b : Byte} (h : i.wf = true) (hv : byteVal b = encodeVal i) :
    decode i.profile b = i := by
  cases i with
  | ledToggle k =>
    obtain ⟨hlo, -⟩ := wf_ledToggle.1 h
    change byteVal b = 128 + k at hv
    exact (decode_ledToggle (by omega)).trans (congrArg Instr.ledToggle (by omega))
  | reverse m =>
    obtain ⟨hlo, hhi⟩ := wf_reverse.1 h
    change byteVal b = 64 + m at hv
    exact (decode_reverse (by omega) (by omega)).trans (congrArg Instr.reverse (by omega))
  | forward m =>
    obtain ⟨-, hhi⟩ := wf_forward.1 h
    change byteVal b = 32 + m at hv
    exact (decode_forward (by omega)).trans (congrArg Instr.forward (by omega))
  | xAxisHigh m =>
    obtain ⟨hlo, -⟩ := wf_xAxisHigh.1 h
    change byteVal b = 64 + m at hv
    exact (decode_xAxisHigh (by omega)).trans (congrArg Instr.xAxisHigh (by omega))
  | xAxisLow m =>
    obtain ⟨hlo, hhi⟩ := wf_xAxisLow.1 h
    change byteVal b = 64 + m at hv
    exact (decode_xAxisLow (by omega) (by omega)).trans (congrArg Instr.xAxisLow (by omega))
  | yAxis m =>
    obtain ⟨hlo, hhi⟩ := wf_yAxis.1 h
    change byteVal b = 32 + m at hv
    exact (decode_yAxis (by omega) (by omega)).trans (congrArg Instr.yAxis (by omega))
  | ignored k =>
    obtain ⟨-, hhi⟩ := wf_ignored.1 h
    change byteVal b = k at hv
    exact (decode_ignored (by omega)).trans (congrArg Instr.ignored hv)

/-- Settles O7: a well-formed command's byte has the command's value, which decodes to the command. -/
theorem decodeOfEncodeIsTheCommand : Obligations.DecodeOfEncodeIsTheCommand :=
  fun _ h => decode_of_byteVal_eq h (byteVal_encode h)

/-- Settles O4: the bands of the seven commands, with the byte's value as a natural number. -/
theorem thresholdsSelectTheCommand : Obligations.ThresholdsSelectTheCommand := by
  intro b
  have hv : byteVal b = b.toNat := rfl
  refine ⟨fun h => decode_ledToggle ?_, fun h₁ h₂ => decode_reverse ?_ ?_, fun h => decode_forward ?_,
    fun h => decode_xAxisHigh ?_, fun h₁ h₂ => decode_xAxisLow ?_ ?_, fun h₁ h₂ => decode_yAxis ?_ ?_,
    fun h => decode_ignored ?_⟩ <;> omega

/-- What the decoder answers for any byte: an operand in its command's range, whose tag base added to it is the byte's
value again (R70, R79). -/
theorem decode_wf_and_encodeVal (p : Profile) (b : Byte) :
    (decode p b).wf = true ∧ (decode p b).profile = p ∧ encodeVal (decode p b) = byteVal b := by
  obtain ⟨h₀, h₁⟩ := byteVal_range b
  cases p with
  | motor =>
    rcases decodeMotor_cases b with ⟨hlo, e⟩ | ⟨hlo, hhi, e⟩ | ⟨hhi, e⟩ <;> rw [show decode .motor b = _ from e]
    · exact ⟨wf_ledToggle.2 (by omega), rfl, add_sub_cancel 128 _⟩
    · exact ⟨wf_reverse.2 (by omega), rfl, add_sub_cancel 64 _⟩
    · exact ⟨wf_forward.2 (by omega), rfl, add_sub_cancel 32 _⟩
  | servo =>
    rcases decodeServo_cases b with ⟨hlo, e⟩ | ⟨hlo, hhi, e⟩ | ⟨hlo, hhi, e⟩ | ⟨hhi, e⟩ <;>
      rw [show decode .servo b = _ from e]
    · exact ⟨wf_xAxisHigh.2 (by omega), rfl, add_sub_cancel 64 _⟩
    · exact ⟨wf_xAxisLow.2 (by omega), rfl, add_sub_cancel 64 _⟩
    · exact ⟨wf_yAxis.2 (by omega), rfl, add_sub_cancel 32 _⟩
    · exact ⟨wf_ignored.2 (by omega), rfl, rfl⟩

/-- Settles O8: the encoder writes the byte's own value. -/
theorem encodeOfDecodeIsTheByte : Obligations.EncodeOfDecodeIsTheByte := by
  intro p b
  obtain ⟨hwf, hp, hv⟩ := decode_wf_and_encodeVal p b
  exact ⟨hwf, hp, by rw [encode, hv, byteOf_byteVal]⟩

/-- Two rows that one byte fits agree on the bits that both of them fix. -/
theorem Opcode.patterns_agree {o o' : Opcode} {b : Byte} (h : o.fits b = true) (h' : o'.fits b = true) :
    o.pattern.2 &&& o'.pattern.1 = o'.pattern.2 &&& o.pattern.1 := by
  rw [← eq_of_beq h, ← eq_of_beq h', BitVec.and_assoc, BitVec.and_assoc, BitVec.and_comm o.pattern.1]

/-- Different rows of a profile differ in a bit that both of them fix (R72, R73). -/
theorem Opcode.eq_of_patterns_agree (p : Profile) : ∀ o ∈ p.rows, ∀ o' ∈ p.rows,
    o.pattern.2 &&& o'.pattern.1 = o'.pattern.2 &&& o.pattern.1 → o = o' := by
  cases p <;> decide

/-- The row of the command that the decoder answers is one of the profile's, and the byte fits it: the byte is that
command's encoding. -/
theorem fits_opcode_decode (p : Profile) (b : Byte) :
    (decode p b).opcode ∈ p.rows ∧ (decode p b).opcode.fits b = true := by
  obtain ⟨hwf, hp, henc⟩ := encodeOfDecodeIsTheByte p b
  obtain ⟨hfits, hrow, -⟩ := tableBits (decode p b) hwf
  rw [hp] at hrow
  rw [henc] at hfits
  exact ⟨hrow, hfits⟩

/-- Settles O5: the byte fits the row it is decoded as, and two rows that it fits are one. -/
theorem everyByteFitsExactlyItsRow : Obligations.EveryByteFitsExactlyItsRow := by
  intro p b o
  obtain ⟨hrow, hfits⟩ := fits_opcode_decode p b
  constructor
  · rintro ⟨ho, hfo⟩
    exact Opcode.eq_of_patterns_agree p o ho _ hrow (Opcode.patterns_agree hfo hfits)
  · rintro rfl
    exact ⟨hrow, hfits⟩

/-- Settles O6: the decoder evaluated at the eight words. -/
theorem sampleWordsDecode : Obligations.SampleWordsDecode := by
  unfold Obligations.SampleWordsDecode
  decide

end Sys2Proof
end

section
/-! SUPPORT. What a received byte leaves of the reachable register values (R95, R97, R104). -/

namespace Sys2Proof.Machine

/-- A duty split of the period, in the range that direction bytes write, stands in the registers as it is (R94). -/
theorem regVal_duty {on : Int} (h₁ : -22 ≤ on) (h₂ : on ≤ 73) :
    regVal (regOf on) = on ∧ regVal (regOf (20 - on)) = 20 - on :=
  ⟨regVal_regOf (by omega) (by omega), regVal_regOf (by omega) (by omega)⟩

/-- What a motor byte does: `LED_TOGGLE`, or a level with a duty split in that level's range (R91 to R95). -/
theorem byteEffect_motor_cases (b : Byte) (rf : RegFile) :
    (128 ≤ b.toNat ∧ byteEffect .motor b rf = { rf with ledMask := if rf.ledMask = 2 then 0 else 2 }) ∨
    ∃ (level : Reg) (on : Int),
      (level = 5 ∧ 10 ≤ on ∧ on ≤ 73 ∨ level = 9 ∧ -22 ≤ on ∧ on ≤ 41) ∧
      byteEffect .motor b rf =
        { rf with outputLevel := level, onDuration := regOf on, offDuration := regOf (20 - on) } := by
  have hv : byteVal b = b.toNat := rfl
  rw [byteEffect]
  by_cases h128 : 128 ≤ b.toNat
  · exact .inl ⟨h128, if_pos h128⟩
  rw [if_neg h128]
  by_cases h64 : 64 ≤ b.toNat
  · have hoff : 20 - (byteVal b - 54) = 74 - byteVal b := by omega
    exact .inr ⟨5, byteVal b - 54, .inl ⟨rfl, by omega, by omega⟩, by rw [if_pos h64, hoff]⟩
  · have hoff : 20 - (byteVal b - 22) = 42 - byteVal b := by omega
    exact .inr ⟨9, byteVal b - 22, .inr ⟨rfl, by omega, by omega⟩, by rw [if_neg h64, hoff]⟩

/-- What a servo byte does: one count in its axis' range, or nothing (R101 to R104). -/
theorem byteEffect_servo_cases (b : Byte) (rf : RegFile) :
    (∃ c : Int, -181 ≤ c ∧ c ≤ 10 ∧ byteEffect .servo b rf = { rf with xPulseCount := regOf c }) ∨
    (∃ c : Int, -21 ≤ c ∧ c ≤ 10 ∧ byteEffect .servo b rf = { rf with yPulseCount := regOf c }) ∨
    byteEffect .servo b rf = rf := by
  have hv : byteVal b = b.toNat := rfl
  have hlt : b.toNat < 256 := b.isLt
  rw [byteEffect]
  by_cases h64 : 64 ≤ b.toNat
  · exact .inl ⟨74 - byteVal b, by omega, by omega, if_pos h64⟩
  rw [if_neg h64]
  by_cases h32 : 32 ≤ b.toNat
  · exact .inr (.inl ⟨42 - byteVal b, by omega, by omega, if_pos h32⟩)
  · exact .inr (.inr (if_neg h32))

/-- A motor byte keeps the reachable values of R95. -/
theorem RegFile.MotorReach.byteEffect {rf : RegFile} (h : rf.MotorReach) (b : Byte) :
    (byteEffect .motor b rf).MotorReach := by
  obtain ⟨hled, hsum, hlevel, hx, hy⟩ := h
  rcases byteEffect_motor_cases b rf with ⟨-, e⟩ | ⟨level, on, hband, e⟩ <;> rw [e]
  · have htoggle : (if rf.ledMask = 2 then (0 : Reg) else 2) = 0 ∨ (if rf.ledMask = 2 then (0 : Reg) else 2) = 2 :=
      ite_eq_or_eq ..
    exact ⟨htoggle, hsum, hlevel, hx, hy⟩
  · obtain ⟨hon, hoff⟩ := regVal_duty (on := on) (by omega) (by omega)
    exact ⟨hled, by simp only [hon, hoff]; omega, .inr (by simpa only [hon] using hband), hx, hy⟩

/-- A servo byte keeps the reachable values of R104. -/
theorem RegFile.ServoReach.byteEffect {rf : RegFile} (h : rf.ServoReach) (b : Byte) :
    (byteEffect .servo b rf).ServoReach := by
  obtain ⟨hx, hy, hmotor⟩ := h
  rcases byteEffect_servo_cases b rf with ⟨c, hlo, hhi, e⟩ | ⟨c, hlo, hhi, e⟩ | e <;> rw [e]
  · have hc : regVal (regOf c) = c := regVal_regOf (by omega) (by omega)
    exact ⟨by simp only [hc]; exact ⟨hlo, hhi⟩, hy, hmotor⟩
  · have hc : regVal (regOf c) = c := regVal_regOf (by omega) (by omega)
    exact ⟨hx, by simp only [hc]; exact ⟨hlo, hhi⟩, hmotor⟩
  · exact ⟨hx, hy, hmotor⟩

/-- A received byte keeps the reachable register values of its profile. -/
theorem RegFile.Reach.byteEffect {p : Profile} {rf : RegFile} (h : rf.Reach p) (b : Byte) :
    (byteEffect p b rf).Reach p := by
  cases p with
  | motor => exact RegFile.MotorReach.byteEffect h b
  | servo => exact RegFile.ServoReach.byteEffect h b

end Sys2Proof.Machine
end

section
/-! SUPPORT. Every step keeps the invariant of a run: one lemma per kind of step (R28, R31, R33, R39, R192). -/

namespace Sys2Proof.Machine

@[simp] theorem lastDrive_append_drive (l : List Event) (v : Int) : lastDrive (l ++ [.drive v]) = some v := by
  simp [lastDrive]

@[simp] theorem lastDrive_append_tick (l : List Event) : lastDrive (l ++ [.tick]) = lastDrive l := by
  simp [lastDrive]

/-- The cycle of a profile stays within the profile (R31). -/
@[simp] theorem Phase.fits_next (p : Profile) (ph : Phase) : Phase.fits p ph.next = Phase.fits p ph := by
  cases p <;> cases ph <;> rfl

/-- The values of an on-phase that is not skipped (R127): away from neutral, `outputLevel` is 5 or 9. -/
theorem RegFile.MotorReach.high_value {rf : RegFile} (h : rf.MotorReach) (hon : regVal rf.onDuration ≠ 10) :
    let v := regVal rf.outputLevel + regVal rf.ledMask
    v = 5 ∨ v = 7 ∨ v = 9 ∨ v = 11 := by
  obtain ⟨hled, -, ⟨-, hneutral⟩ | ⟨hlevel, -⟩ | ⟨hlevel, -⟩, -⟩ := h
  · exact absurd hneutral hon
  all_goals rcases hled with hled | hled <;> rw [hlevel, hled] <;> decide

/-- The values of an off-phase (R127). -/
theorem RegFile.MotorReach.low_value {rf : RegFile} (h : rf.MotorReach) :
    regVal rf.ledMask = 0 ∨ regVal rf.ledMask = 2 := by
  obtain ⟨hled, -⟩ := h
  rcases hled with hled | hled <;> rw [hled] <;> decide

/-- A phase start of a run is skipped, or drives a value of the profile's (R121, R127, R147). -/
theorem State.phaseStart_skips_or_drives {s : State} {p : Profile} (hregs : s.rf.Reach p)
    (hfits : Phase.fits p s.phase = true) :
    s.phaseStart = { s with phase := s.phase.next } ∨
    ∃ v cnt draws, drivable p v ∧ s.phaseStart =
      { s with phase := s.phase.next, bus := some v, trace := s.trace ++ [.drive v], cnt := cnt, draws := draws } := by
  unfold State.phaseStart
  rcases hphase : s.phase with _ | _ | _ | _ | _ <;> cases p <;> rw [hphase] at hfits
  case mOn.motor =>
    by_cases hon : s.readReg .onDuration = 10
    · exact .inl (State.startMOn_neutral hon)
    · exact .inr ⟨_, _, _, .inr (.inr (RegFile.MotorReach.high_value hregs hon)), s.startMOn_eq.trans (if_neg hon)⟩
  case mOff.motor =>
    by_cases hoff : offGuardHolds s.offGuard (s.readReg .onDuration) (s.readReg .offDuration) = true
    · have hlow := RegFile.MotorReach.low_value hregs
      exact .inr ⟨_, _, _, hlow.imp_right .inl, s.startMOff_eq.trans (if_pos hoff)⟩
    · exact .inl (s.startMOff_eq.trans (if_neg hoff))
  case sX.servo => exact .inr ⟨_, _, _, .inl rfl, State.pulsePhase_eq ..⟩
  case sY.servo => exact .inr ⟨_, _, _, .inr (.inl rfl), State.pulsePhase_eq ..⟩
  case sIdle.servo => exact .inr ⟨_, _, _, .inr (.inr rfl), s.startSIdle_eq⟩
  all_goals contradiction

/-- Taking a slot touches no field the invariant speaks of. -/
theorem State.Inv.takeSlot {s : State} (h : s.Inv) : s.takeSlot.Inv := by
  cases h
  constructor <;> assumption

/-- A launched state satisfies the clauses on the enables by itself (R192, R193). -/
theorem State.inv_of_launched {s : State} (hl : s.launched = true) (hregs : s.rf.Reach s.profile)
    (hfits : Phase.fits s.profile s.phase = true) (hlast : s.bus = lastDrive s.trace)
    (hvalue : ∀ v, s.bus = some v → drivable s.profile v) (hundriven : s.bus = none → s.trace = [] ∧ s.cnt = 0) :
    s.Inv := by
  have hen := hl
  simp only [State.launched, Bool.and_eq_true] at hen
  obtain ⟨⟨hout, hrx⟩, -⟩ := hen
  exact ⟨hregs, hfits, hlast, hvalue, hundriven, ⟨fun _ => hrx, fun _ => hout⟩, fun hn => by simp [hl] at hn⟩

/-- In a run reception is the last thing enabled, so a core that takes bytes has launched (R192). -/
theorem State.Inv.launched_of_rxEnabled {s : State} (h : s.Inv) (he : s.rxEnabled = true) : s.launched = true := by
  simp only [State.rxEnabled, Bool.and_eq_true] at he
  obtain ⟨hrx, hg⟩ := he
  obtain ⟨-, hout⟩ := h.boot_order
  simp [State.launched, hout hrx, hrx, hg]

/-- A decoder step writes reachable register values and nothing else (R95, R104). -/
theorem State.Inv.decode {s : State} (h : s.Inv) (hl : s.launched = true) (b : Byte) :
    State.Inv { s with rf := byteEffect s.profile b s.rf } :=
  State.inv_of_launched hl (h.regs.byteEffect b) h.phase_fits h.bus_last h.bus_value h.undriven

/-- A phase start that drives gives the bus its value and the trace the event; a skipped one moves `phase` alone. -/
theorem State.Inv.phaseStart {s : State} (h : s.Inv) (hl : s.launched = true) : s.phaseStart.Inv := by
  have hfits : Phase.fits s.profile s.phase.next = true := (Phase.fits_next ..).trans h.phase_fits
  rcases State.phaseStart_skips_or_drives h.regs h.phase_fits with e | ⟨v, cnt, draws, hv, e⟩ <;> rw [e]
  · exact State.inv_of_launched hl h.regs hfits h.bus_last h.bus_value h.undriven
  · exact State.inv_of_launched hl h.regs hfits (lastDrive_append_drive ..).symm
      (fun w hw => Option.some.inj hw ▸ hv) (fun hn => nomatch hn)

/-- A hold in progress was loaded by a drive, so a tick never comes before the first one (R39). -/
theorem State.Inv.tick {s : State} (h : s.Inv) (hl : s.launched = true) (hc : 0 < s.cnt) : s.tick.Inv := by
  refine State.inv_of_launched hl h.regs h.phase_fits (h.bus_last.trans (lastDrive_append_tick _).symm) h.bus_value
    fun hn => ?_
  obtain ⟨-, hcnt⟩ := h.undriven hn
  omega

/-- An initialisation call sets the next enable of R192's order, and all else stays as reset left it. -/
theorem State.Inv.initCall {s : State} (h : s.Inv) (hl : s.launched = false) : s.initCall.Inv := by
  have hreset := h.before_launch hl
  obtain ⟨hg, hr⟩ := h.boot_order
  rcases s.initCall_cases with ⟨-, e⟩ | ⟨hout, -, e⟩ | ⟨hout, hrx, e⟩ <;> rw [e] <;>
    refine ⟨h.regs, h.phase_fits, h.bus_last, h.bus_value, h.undriven, ?_, fun _ => hreset⟩
  · exact ⟨hg, fun _ => rfl⟩
  · exact ⟨fun _ => rfl, fun _ => hout⟩
  · exact ⟨fun _ => hrx, hr⟩

/-- Settles O49: by the cases of a step, each of which keeps the invariant. -/
theorem invariantKeptByEveryStep : Obligations.InvariantKeptByEveryStep := by
  intro s t hinv h
  rcases step_cases h with ⟨b, hb, he, -⟩ | ⟨-, hl, rfl⟩ | ⟨-, hl, -, rfl⟩ | ⟨-, hl, hc, rfl⟩
  · rw [step_byte_enabled hb he] at h
    injection h with h
    exact h ▸ hinv.takeSlot.decode (hinv.launched_of_rxEnabled he) b
  · exact hinv.takeSlot.initCall hl
  · exact hinv.takeSlot.phaseStart hl
  · exact hinv.takeSlot.tick hl hc

end Sys2Proof.Machine
end

section
/-! SUPPORT. The motor commands (R91 to R97): what each leaves in the registers. -/

namespace Sys2Proof.Machine

theorem State.readReg_setDuty_onDuration (s : State) (level : Int) {m : Int} (h₁ : -32 ≤ m) (h₂ : m < 64) :
    (s.setDuty level m).readReg .onDuration = m + 10 :=
  regVal_regOf (v := m + 10) (by omega) (by omega)

theorem State.readReg_setDuty_offDuration (s : State) (level : Int) {m : Int} (h₁ : -32 ≤ m) (h₂ : m < 64) :
    (s.setDuty level m).readReg .offDuration = 20 - (m + 10) :=
  regVal_regOf (v := 20 - (m + 10)) (by omega) (by omega)

theorem State.readReg_setDuty_outputLevel (s : State) {level : Int} (m : Int) (h₁ : -32768 ≤ level)
    (h₂ : level < 32768) : (s.setDuty level m).readReg .outputLevel = level :=
  regVal_regOf h₁ h₂

/-- Settles O10: `REVERSE` is `setDuty` with level 5. -/
theorem reverseSetsLevelAndDuty : Obligations.ReverseSetsLevelAndDuty := by
  intro b s h64 h128
  have hv : byteVal b = b.toNat := rfl
  exact ⟨decode_reverse (by omega) (by omega), s.setDuty 5 (byteVal b - 64), rfl,
    s.readReg_setDuty_outputLevel _ (by omega) (by omega), s.readReg_setDuty_onDuration 5 (by omega) (by omega),
    s.readReg_setDuty_offDuration 5 (by omega) (by omega), rfl, rfl, rfl, rfl⟩

/-- Settles O11: `FORWARD` is `setDuty` with level 9. -/
theorem forwardSetsLevelAndDuty : Obligations.ForwardSetsLevelAndDuty := by
  intro b s h64
  have hv : byteVal b = b.toNat := rfl
  exact ⟨decode_forward (by omega), s.setDuty 9 (byteVal b - 32), rfl,
    s.readReg_setDuty_outputLevel _ (by omega) (by omega), s.readReg_setDuty_onDuration 9 (by omega) (by omega),
    s.readReg_setDuty_offDuration 9 (by omega) (by omega), rfl, rfl, rfl, rfl⟩

/-- Of the bytes only a direction byte writes the durations, and it writes a split of the period (R97). -/
theorem byteEffect_duty (p : Profile) (b : Byte) (rf : RegFile) :
    ((byteEffect p b rf).onDuration = rf.onDuration ∧ (byteEffect p b rf).offDuration = rf.offDuration ∧
      (p = .motor → 128 ≤ b.toNat)) ∨
    regVal (byteEffect p b rf).onDuration + regVal (byteEffect p b rf).offDuration = 20 := by
  cases p with
  | motor =>
    rcases byteEffect_motor_cases b rf with ⟨h128, e⟩ | ⟨level, on, hband, e⟩ <;> rw [e]
    · exact .inl ⟨rfl, rfl, fun _ => h128⟩
    · obtain ⟨hon, hoff⟩ := regVal_duty (on := on) (by omega) (by omega)
      exact .inr (by simp only [hon, hoff]; omega)
  | servo =>
    rcases byteEffect_servo_cases b rf with ⟨c, -, -, e⟩ | ⟨c, -, -, e⟩ | e <;> rw [e] <;>
      exact .inl ⟨rfl, rfl, fun h => nomatch h⟩

/-- Settles O41: only a byte writes the durations, and then as a split of 20. -/
theorem dutySumIsTwenty : Obligations.DutySumIsTwenty := by
  refine ⟨fun b s t hb h => ?_, fun p g => ?_, fun s t hsum h => ?_⟩
  · rw [exec_decode] at h
    injection h with h
    rw [← h]
    rcases byteEffect_duty .motor b s.rf with ⟨-, -, h128⟩ | hsum
    · have := h128 rfl
      omega
    · exact hsum
  · show regVal RegFile.reset.onDuration + regVal RegFile.reset.offDuration = 20
    simp
  · show regVal t.rf.onDuration + regVal t.rf.offDuration = 20
    rcases step_rf h with hrf | ⟨b, -, hrf⟩ <;> rw [hrf]
    · exact hsum
    · rcases byteEffect_duty s.profile b s.rf with ⟨hon, hoff, -⟩ | hsum'
      · rw [hon, hoff]
        exact hsum
      · exact hsum'

/-- Settles O9: the toggle's test on the register's value is the one on its bits. -/
theorem ledToggleFlipsLedMaskOnly : Obligations.LedToggleFlipsLedMaskOnly := by
  refine ⟨fun b h128 => ⟨_, decode_ledToggle (by simp only [byteVal]; omega)⟩, fun k s => ?_⟩
  simp only [exec_ledToggle, State.readReg, RegFile.read_ledMask, regVal_eq_two_iff]

theorem regVal_eq_zero_iff (r : Reg) : regVal r = 0 ↔ r = 0 :=
  BitVec.toInt_inj (x := r) (y := 0)

/-- Two toggles of an enable that is on or off (R91). -/
theorem ledMask_toggle_toggle {r : Reg} (h : r = 0 ∨ r = 2) :
    (if (if r = 2 then (0 : Reg) else 2) = 2 then (0 : Reg) else 2) = r := by
  rcases h with rfl | rfl <;> decide

/-- Settles O15: a second command of the same kind leaves only itself (`lastCommandWins`); two toggles cancel. -/
theorem commandsIdempotentLedInvolutive : Obligations.CommandsIdempotentLedInvolutive := by
  obtain ⟨hdirection, hxAxis, hyAxis⟩ := lastCommandWins
  constructor
  · intro i s t hled h
    cases i with
    | ledToggle k => exact absurd rfl (hled k)
    | reverse m => exact (hdirection _ _ s t ⟨m, .inl rfl⟩ ⟨m, .inl rfl⟩ h).trans h
    | forward m => exact (hdirection _ _ s t ⟨m, .inr rfl⟩ ⟨m, .inr rfl⟩ h).trans h
    | xAxisHigh m => exact (hxAxis _ _ s t ⟨m, .inl rfl⟩ ⟨m, .inl rfl⟩ h).trans h
    | xAxisLow m => exact (hxAxis _ _ s t ⟨m, .inr rfl⟩ ⟨m, .inr rfl⟩ h).trans h
    | yAxis m => exact (hyAxis m m s t h).trans h
    | ignored k => exact exec_ignored k t
  · intro j k s t hmask h
    have hbits : s.rf.ledMask = 0 ∨ s.rf.ledMask = 2 :=
      hmask.imp (regVal_eq_zero_iff _).1 (regVal_eq_two_iff _).1
    rw [exec_ledToggle] at h
    injection h with h
    rw [← h, exec_ledToggle]
    simp only [ledMask_toggle_toggle hbits]

end Sys2Proof.Machine
end

section
/-! SUPPORT. A burst of bytes: the decoder's algorithm once for each, in the order received (R164, log 18). -/

namespace Sys2Proof.Machine

/-- Settles O19: by induction over the burst, whose first byte is taken by one step. -/
theorem bytesDecodeInOrder : Obligations.BytesDecodeInOrder := by
  intro bs
  induction bs with
  | nil =>
    intro s rest _ hscript
    rw [show rest = s.script from hscript.symm]
    rfl
  | cons b bs ih =>
    intro s rest he hscript
    have hb : s.rxByte = some b := by simp [State.rxByte, hscript]
    have htail : s.takeSlot.script = bs.map Slot.byte ++ rest := by simp [hscript]
    rw [List.length_cons, run_succ_next (step_byte_enabled hb he)]
    exact ih { s.takeSlot with rf := byteEffect s.profile b s.rf } rest he htail

end Sys2Proof.Machine
end

section
/-! SUPPORT. The servo commands (R101 to R105): what each leaves in the registers, and that the axes do not meet. -/

namespace Sys2Proof.Machine

/-- The count a magnitude in the range of either axis writes stands in the register as it is (R104). -/
theorem State.readReg_setCount_same (s : State) (n : RegName) {m : Int} (h₁ : 0 ≤ m) (h₂ : m < 192) :
    (s.setCount n m).readReg n = 10 - m :=
  s.readReg_writeReg_same n (v := 10 - m) (by omega) (by omega)

/-- Settles O12: either form of `X_AXIS` is `setCount` on the X axis. -/
theorem xAxisSetsItsCount : Obligations.XAxisSetsItsCount := by
  intro b s h64
  have hv : byteVal b = b.toNat := rfl
  constructor
  · by_cases h128 : 128 ≤ b.toNat
    · rw [if_pos h128]
      exact decode_xAxisHigh (by omega)
    · rw [if_neg h128]
      exact decode_xAxisLow (by omega) (by omega)
  · intro i hi
    have hexec : exec i s = .next (s.setCount .xPulseCount (byteVal b - 64)) := by
      rcases hi with rfl | rfl <;> rfl
    obtain ⟨-, hmax⟩ := byteVal_range b
    exact ⟨_, hexec, s.readReg_setCount_same .xPulseCount (by omega) (by omega), rfl⟩

/-- Settles O13: `Y_AXIS` is `setCount` on the Y axis. -/
theorem yAxisSetsItsCount : Obligations.YAxisSetsItsCount := by
  intro b s h32 h64
  have hv : byteVal b = b.toNat := rfl
  exact ⟨decode_yAxis (by omega) (by omega), s.setCount .yPulseCount (byteVal b - 32), rfl,
    s.readReg_setCount_same .yPulseCount (by omega) (by omega), rfl⟩

/-- Settles O14: the servo bytes below 32 are the band of `IGNORED`, which leaves the state as it is. -/
theorem ignoredByteChangesNothing : Obligations.IgnoredByteChangesNothing :=
  ⟨fun b h32 => ⟨byteVal b, decode_ignored (by simp only [byteVal]; omega)⟩, exec_ignored⟩

/-- Writes of the two counts touch different registers, so either may come first (R105). -/
theorem State.setCount_comm (s : State) (m m' : Int) :
    (s.setCount .xPulseCount m).setCount .yPulseCount m' = (s.setCount .yPulseCount m').setCount .xPulseCount m := rfl

/-- Settles O17: the commands are writes of different counts, which commute, and each is written whole. -/
theorem axesAreIndependent : Obligations.AxesAreIndependent := by
  intro i m s t u hi ht hu
  obtain ⟨k, hx⟩ := exec_xAxis hi
  have hy (s : State) : exec (.yAxis m) s = .next (s.setCount .yPulseCount m) := rfl
  rw [hx] at ht
  rw [hy] at hu
  injection ht with ht
  injection hu with hu
  subst ht hu
  refine ⟨rfl, rfl, ?_, ?_, ?_, fun k => exec_ignored k s⟩
  · rw [hy, hx, State.setCount_comm]
  · rw [hx, State.setCount_setCount]
  · rw [hy, State.setCount_setCount]

end Sys2Proof.Machine
end

section
/-! SUPPORT. The inactive registers (R106): no step writes the other profile's registers, nor the configuration (R2). -/

namespace Sys2Proof.Machine

/-- A step leaves what is fixed when the core is built (R2, R124). -/
theorem step_config {s t : State} (h : step s = .next t) : t.profile = s.profile ∧ t.offGuard = s.offGuard := by
  rcases step_cases h with ⟨b, hb, -⟩ | ⟨-, -, rfl⟩ | ⟨-, -, -, rfl⟩ | ⟨-, -, -, rfl⟩
  · obtain ⟨rf, rfl⟩ := step_byte_eq hb h
    exact ⟨rfl, rfl⟩
  · rcases s.takeSlot.initCall_cases with ⟨-, e⟩ | ⟨-, -, e⟩ | ⟨-, -, e⟩ <;> rw [e] <;> exact ⟨rfl, rfl⟩
  · obtain ⟨hprofile, hguard, -⟩ := s.takeSlot.phaseStart_frame
    exact ⟨hprofile, hguard⟩
  · exact ⟨rfl, rfl⟩

/-- A motor byte writes a direction or toggles the LED, never a pulse count (R106). -/
theorem byteEffect_motor_counts (b : Byte) (rf : RegFile) :
    (byteEffect .motor b rf).xPulseCount = rf.xPulseCount ∧ (byteEffect .motor b rf).yPulseCount = rf.yPulseCount := by
  rcases byteEffect_motor_cases b rf with ⟨-, e⟩ | ⟨_, _, -, e⟩ <;> rw [e] <;> exact ⟨rfl, rfl⟩

/-- A servo byte writes at most a pulse count, never a motor register (R106). -/
theorem byteEffect_servo_motorRegs (b : Byte) (rf : RegFile) :
    (byteEffect .servo b rf).onDuration = rf.onDuration ∧ (byteEffect .servo b rf).offDuration = rf.offDuration ∧
    (byteEffect .servo b rf).outputLevel = rf.outputLevel ∧ (byteEffect .servo b rf).ledMask = rf.ledMask := by
  rcases byteEffect_servo_cases b rf with ⟨_, -, -, e⟩ | ⟨_, -, -, e⟩ | e <;> rw [e] <;> exact ⟨rfl, rfl, rfl, rfl⟩

/-- Settles O24: only a byte writes the register file, and only the registers of its profile. -/
theorem inactiveRegistersAreNeverTouched : Obligations.InactiveRegistersAreNeverTouched := by
  intro s t h
  obtain ⟨hprofile, hguard⟩ := step_config h
  refine ⟨hprofile, hguard, fun hp => ?_, fun hp => ?_⟩
  · rcases step_rf h with hrf | ⟨b, -, hrf⟩ <;> rw [hrf]
    · exact ⟨rfl, rfl⟩
    · rw [hp]
      exact byteEffect_motor_counts b s.rf
  · rcases step_rf h with hrf | ⟨b, -, hrf⟩ <;> rw [hrf]
    · exact ⟨rfl, rfl, rfl, rfl⟩
    · rw [hp]
      exact byteEffect_servo_motorRegs b s.rf

end Sys2Proof.Machine
end

section
/-! SUPPORT. The fields that every step moves in one way: the script, the phase within its cycle, the count of draws. -/

namespace Sys2Proof.Machine

/-- Every step takes the first slot of the script and leaves the others (R56, log 2). -/
theorem step_script {s t : State} (h : step s = .next t) : t.script = s.script.tail := by
  rcases step_cases h with ⟨b, hb, -⟩ | ⟨-, -, rfl⟩ | ⟨-, -, -, rfl⟩ | ⟨-, -, -, rfl⟩
  · obtain ⟨rf, rfl⟩ := step_byte_eq hb h
    rfl
  · rcases s.takeSlot.initCall_cases with ⟨-, e⟩ | ⟨-, -, e⟩ | ⟨-, -, e⟩ <;> rw [e] <;> rfl
  · obtain ⟨-, -, -, -, -, -, hscript⟩ := s.takeSlot.phaseStart_frame
    exact hscript
  · rfl

/-- Only a phase start draws (R114). -/
theorem step_draws {s t : State} (h : step s = .next t) : t.draws = s.draws ∨ t = s.takeSlot.phaseStart := by
  rcases step_cases h with ⟨b, hb, -⟩ | ⟨-, -, rfl⟩ | ⟨-, -, -, rfl⟩ | ⟨-, -, -, rfl⟩
  · obtain ⟨rf, rfl⟩ := step_byte_eq hb h
    exact .inl rfl
  · rcases s.takeSlot.initCall_cases with ⟨-, e⟩ | ⟨-, -, e⟩ | ⟨-, -, e⟩ <;> rw [e] <;> exact .inl rfl
  · exact .inr rfl
  · exact .inl rfl

/-- A step leaves `phase` or moves it on by one, so within the profile's cycle (R31). -/
theorem step_phase_fits {s t : State} (p : Profile) (h : step s = .next t) :
    Phase.fits p t.phase = Phase.fits p s.phase := by
  obtain ⟨hmoves, hkeeps⟩ := phaseAdvancesOnlyAtPhaseStarts s t h
  by_cases hstart : s.launched = true ∧ s.rxByte = none ∧ s.cnt = 0
  · rw [hmoves hstart, Phase.fits_next]
  · rw [hkeeps hstart]

theorem State.mem_script_of_rxByte {s : State} {b : Byte} (hb : s.rxByte = some b) : Slot.byte b ∈ s.script := by
  unfold State.rxByte at hb
  split at hb
  · next hs =>
    injection hb with hb
    rw [hs, hb]
    exact List.mem_cons_self
  · contradiction

/-- A run of `k + 1` steps that answers a next state is a step and a run of `k`. -/
theorem exists_step_of_run_succ {k : Nat} {s t : State} (h : run (k + 1) s = .next t) :
    ∃ u, step s = .next u ∧ run k u = .next t := by
  rw [run] at h
  rcases hs : step s with u | r | r <;> rw [hs] at h
  · exact ⟨u, rfl, h⟩
  all_goals contradiction

end Sys2Proof.Machine
end

section
/-! SUPPORT. Well-formed input (R117): it leaves counts that are not negative, so no hold is a draw. -/

namespace Sys2Proof.Machine

theorem wellFormedByte_motor {b : Byte} : wellFormedByte .motor b = true ↔
    (32 ≤ b.toNat ∧ b.toNat ≤ 42) ∨ (64 ≤ b.toNat ∧ b.toNat ≤ 74) ∨ 128 ≤ b.toNat := by
  simp [wellFormedByte, or_assoc]

theorem wellFormedByte_servo {b : Byte} : wellFormedByte .servo b = true ↔
    b.toNat ≤ 42 ∨ (64 ≤ b.toNat ∧ b.toNat ≤ 74) := by
  simp [wellFormedByte]

/-- A duty of at least neutral and at most the whole period is well-formed (R22, R23). -/
theorem RegFile.wellFormedFor_motor_of_duty (rf : RegFile) (level : Reg) {on off : Int} (hlo : 10 ≤ on) (hhi : on ≤ 20)
    (hoff : off = 20 - on) : RegFile.WellFormedFor
      { rf with outputLevel := level, onDuration := regOf on, offDuration := regOf off } .motor := by
  subst hoff
  obtain ⟨eon, eoff⟩ := regVal_duty (on := on) (by omega) (by omega)
  simp only [RegFile.WellFormedFor, eon, eoff]
  exact ⟨hlo, hhi, trivial⟩

/-- A well-formed motor byte toggles the LED or writes an on-duration of 10 to 20, the rest of the period being off. -/
theorem RegFile.WellFormedFor.byteEffect_motor {rf : RegFile} {b : Byte} (h : rf.WellFormedFor .motor)
    (hb : wellFormedByte .motor b = true) : (byteEffect .motor b rf).WellFormedFor .motor := by
  have hv : byteVal b = b.toNat := rfl
  rw [byteEffect]
  rcases wellFormedByte_motor.1 hb with ⟨hlo, hhi⟩ | ⟨hlo, hhi⟩ | hled
  · rw [if_neg (by omega), if_neg (by omega)]
    exact rf.wellFormedFor_motor_of_duty 9 (by omega) (by omega) (by omega)
  · rw [if_neg (by omega), if_pos hlo]
    exact rf.wellFormedFor_motor_of_duty 5 (by omega) (by omega) (by omega)
  · rw [if_pos hled]
    exact h

/-- A well-formed servo byte writes one count of 0 to 10, or nothing. -/
theorem RegFile.WellFormedFor.byteEffect_servo {rf : RegFile} {b : Byte} (h : rf.WellFormedFor .servo)
    (hb : wellFormedByte .servo b = true) : (byteEffect .servo b rf).WellFormedFor .servo := by
  have hv : byteVal b = b.toNat := rfl
  have hband := wellFormedByte_servo.1 hb
  obtain ⟨hx, hy⟩ := h
  rw [byteEffect]
  by_cases h64 : 64 ≤ b.toNat
  · have hc : regVal (regOf (74 - byteVal b)) = 74 - byteVal b := regVal_regOf (by omega) (by omega)
    rw [if_pos h64]
    exact ⟨by simp only [hc]; omega, hy⟩
  rw [if_neg h64]
  by_cases h32 : 32 ≤ b.toNat
  · have hc : regVal (regOf (42 - byteVal b)) = 42 - byteVal b := regVal_regOf (by omega) (by omega)
    rw [if_pos h32]
    exact ⟨hx, by simp only [hc]; omega⟩
  · rw [if_neg h32]
    exact ⟨hx, hy⟩

/-- A well-formed byte keeps the well-formed register values of its profile. -/
theorem RegFile.WellFormedFor.byteEffect {p : Profile} {rf : RegFile} {b : Byte} (h : rf.WellFormedFor p)
    (hb : wellFormedByte p b = true) : (byteEffect p b rf).WellFormedFor p := by
  cases p with
  | motor => exact RegFile.WellFormedFor.byteEffect_motor h hb
  | servo => exact RegFile.WellFormedFor.byteEffect_servo h hb

/-- With well-formed registers every count a phase start loads is non-negative, so it draws nothing (R112, R114). -/
theorem State.phaseStart_draws_of_wellFormed {s : State} {p : Profile} (hregs : s.rf.WellFormedFor p)
    (hfits : Phase.fits p s.phase = true) : s.phaseStart.draws = s.draws := by
  unfold State.phaseStart
  rcases hphase : s.phase with _ | _ | _ | _ | _ <;> cases p <;> rw [hphase] at hfits
  case mOn.motor =>
    obtain ⟨hlo, -, -⟩ := hregs
    have hon : ¬ s.readReg .onDuration < 0 := by change ¬ regVal s.rf.onDuration < 0; omega
    simp only [State.startMOn_eq, if_neg hon]
    split <;> rfl
  case mOff.motor =>
    obtain ⟨-, hhi, hrest⟩ := hregs
    have hoff : ¬ s.readReg .offDuration < 0 := by change ¬ regVal s.rf.offDuration < 0; omega
    simp only [State.startMOff_eq, if_neg hoff]
    split <;> rfl
  case sX.servo =>
    obtain ⟨⟨hlo, -⟩, -⟩ := hregs
    exact (congrArg State.draws (s.pulsePhase_nonneg (selectLevel Config.xSel) .sY hlo) :)
  case sY.servo =>
    obtain ⟨-, hlo, -⟩ := hregs
    exact (congrArg State.draws (s.pulsePhase_nonneg (selectLevel Config.ySel) .sIdle hlo) :)
  case sIdle.servo => exact (congrArg State.draws s.startSIdle_eq :)
  all_goals contradiction

/-- The premise of R117 is inductive: only a byte writes registers, and each byte of the script is well-formed. -/
theorem State.WellFormedRun.kept_by_step {s t : State} (hs : s.WellFormedRun) (h : step s = .next t) : t.WellFormedRun := by
  obtain ⟨hregs, hfits, hinput⟩ := hs
  obtain ⟨hp, -⟩ := step_config h
  constructor <;> rw [hp]
  · rcases step_rf h with hrf | ⟨b, hb, hrf⟩ <;> rw [hrf]
    · exact hregs
    · exact hregs.byteEffect (hinput b (State.mem_script_of_rxByte hb))
  · exact (step_phase_fits s.profile h).trans hfits
  · rw [step_script h]
    exact fun b hb => hinput b (List.mem_of_mem_tail hb)

/-- In a well-formed run no step draws (R117). -/
theorem State.WellFormedRun.draws_of_step {s t : State} (hs : s.WellFormedRun) (h : step s = .next t) :
    t.draws = s.draws := by
  rcases step_draws h with hd | rfl
  · exact hd
  · exact State.phaseStart_draws_of_wellFormed (s := s.takeSlot) hs.regs hs.phase_fits

/-- The whole run draws nothing, by induction over its steps. -/
theorem State.WellFormedRun.draws_of_run {k : Nat} {s t : State} (hs : s.WellFormedRun) (h : run k s = .next t) :
    t.draws = s.draws := by
  induction k generalizing s with
  | zero =>
    injection h with h
    rw [h]
  | succ k ih =>
    obtain ⟨u, hstep, hrun⟩ := exists_step_of_run_succ h
    exact (ih (hs.kept_by_step hstep) hrun).trans (hs.draws_of_step hstep)

/-- Settles O31: the premise is inductive, and under it no step draws. -/
theorem wellFormedInputNeverDraws : Obligations.WellFormedInputNeverDraws :=
  ⟨fun _ _ hs h => ⟨hs.kept_by_step h, hs.draws_of_step h⟩, fun _ _ _ hs h => hs.draws_of_run h⟩

end Sys2Proof.Machine
end

section
/-! SUPPORT. The timer (R111 to R116): the tick, the load, and how soon a hold begins. -/

namespace Sys2Proof.Machine

/-- Settles O27: the step of a hold in progress is a tick. -/
theorem tickCountsDown : Obligations.TickCountsDown := fun _ hl hq hc => step_tick hl hq hc

/-- Settles O28: `Load` is the load with no fixed part and one base tick per count. -/
theorem negativeHoldIsAFreshDraw : Obligations.NegativeHoldIsAFreshDraw := by
  intro s n
  constructor
  · intro h
    rw [State.load, State.loadHold_nonneg s 0 1 h, Nat.zero_add, Nat.one_mul]
  · intro h
    rw [State.load, State.loadHold_neg s 0 1 h, Nat.zero_add]

/-- An on-phase longer than neutral is not skipped and holds (R122). -/
theorem State.startMOn_cnt_pos {s : State} (hon : 10 < s.readReg .onDuration) : 0 < s.startMOn.cnt := by
  rw [State.startMOn_eq, if_neg (by omega)]
  show 0 < s.holdTicks 1 (s.readReg .onDuration)
  rw [State.holdTicks_nonneg _ _ (by omega)]
  omega

/-- An off-phase of at least neutral length is skipped by neither guard and holds (R123, R124). -/
theorem State.startMOff_cnt_pos {s : State} (hsum : s.readReg .onDuration + s.readReg .offDuration = 20)
    (hon : s.readReg .onDuration ≤ 10) : 0 < s.startMOff.cnt := by
  have hguard : offGuardHolds s.offGuard (s.readReg .onDuration) (s.readReg .offDuration) = true := by
    cases s.offGuard <;> simp only [offGuardHolds, Params.fullOn, decide_eq_true_eq] <;> omega
  rw [State.startMOff_nonneg hguard (by omega)]
  show 0 < (s.readReg .offDuration).toNat
  omega

/-- Every servo phase holds, the buffer or the idle gap at least (R149). -/
theorem State.phaseStart_cnt_pos_of_servo {s : State} (hfits : Phase.fits .servo s.phase = true) :
    0 < s.phaseStart.cnt := by
  have hpulse (v c : Int) (p : Phase) : 0 < (((s.busWrite v).loadPulse c).setPhase p).cnt := by
    rw [State.pulsePhase_eq]
    exact Nat.add_pos_left (by decide) _
  unfold State.phaseStart
  rcases hphase : s.phase with _ | _ | _ | _ | _ <;> rw [hphase] at hfits
  case sX => exact hpulse ..
  case sY => exact hpulse ..
  case sIdle =>
    rw [State.startSIdle_eq]
    exact Nat.succ_pos 999
  all_goals contradiction

/-- Of the two motor phases the one that is not the shorter begins a hold, whatever the draws. -/
theorem State.phaseStart_cnt_pos_of_longer {s : State} (hregs : s.rf.MotorReach)
    (h : s.phase = .mOn ∧ 10 < s.readReg .onDuration ∨ s.phase = .mOff ∧ s.readReg .onDuration ≤ 10) :
    0 < s.phaseStart.cnt := by
  obtain ⟨-, hsum, -⟩ := hregs
  unfold State.phaseStart
  rcases h with ⟨hphase, hon⟩ | ⟨hphase, hon⟩ <;> rw [hphase]
  · exact State.startMOn_cnt_pos hon
  · exact State.startMOff_cnt_pos hsum hon

/-- A motor phase start leaves the registers, so the phase that holds is this one or the next (R132). -/
theorem State.phaseStart_cnt_pos_of_motor {s : State} (hregs : s.rf.MotorReach)
    (hfits : Phase.fits .motor s.phase = true) : 0 < s.phaseStart.cnt ∨ 0 < s.phaseStart.phaseStart.cnt := by
  have hregs' : s.phaseStart.rf.MotorReach := s.phaseStart_rf.symm ▸ hregs
  have hread : s.phaseStart.readReg .onDuration = s.readReg .onDuration := by
    rw [State.readReg, State.phaseStart_rf, State.readReg]
  have hnext : s.phaseStart.phase = s.phase.next := s.phaseStart_phase
  rcases hphase : s.phase with _ | _ | _ | _ | _ <;> rw [hphase] at hfits hnext
  case mOn =>
    rcases lt_or_ge 10 (s.readReg .onDuration) with hon | hon
    · exact .inl (State.phaseStart_cnt_pos_of_longer hregs (.inl ⟨hphase, hon⟩))
    · exact .inr (State.phaseStart_cnt_pos_of_longer hregs' (.inr ⟨hnext, hread.trans_le hon⟩))
  case mOff =>
    rcases lt_or_ge 10 (s.readReg .onDuration) with hon | hon
    · exact .inr (State.phaseStart_cnt_pos_of_longer hregs' (.inl ⟨hnext, hon.trans_eq hread.symm⟩))
    · exact .inl (State.phaseStart_cnt_pos_of_longer hregs (.inr ⟨hphase, hon⟩))
  all_goals contradiction

/-- In a run a hold begins at this phase start or the next, if its registers are not written between (R132, R149). -/
theorem State.Inv.phaseStart_cnt_pos {s : State} (h : s.Inv) :
    0 < s.phaseStart.cnt ∨ 0 < s.phaseStart.phaseStart.cnt := by
  have hregs := h.regs
  have hfits := h.phase_fits
  cases hp : s.profile <;> rw [hp] at hregs hfits
  case motor => exact State.phaseStart_cnt_pos_of_motor hregs hfits
  case servo => exact .inl (State.phaseStart_cnt_pos_of_servo hfits)

/-- Settles O30: at once when a hold is in progress, else after the one or two phase starts that a silent host leaves. -/
theorem timeAdvancesWithinTwoPhaseStarts : Obligations.TimeAdvancesWithinTwoPhaseStarts := by
  intro s hinv hl hs
  rcases Nat.eq_zero_or_pos s.cnt with hc | hc
  case inr => exact ⟨0, s, by omega, rfl, hc⟩
  have hfirst : step s = .next s.phaseStart := step_silent_phaseStart hl hs hc
  rcases Nat.eq_zero_or_pos s.phaseStart.cnt with hc' | hc'
  case inr => exact ⟨1, s.phaseStart, by omega, run_succ_next hfirst, hc'⟩
  have hlater : 0 < s.phaseStart.phaseStart.cnt := hinv.phaseStart_cnt_pos.resolve_left (by omega)
  have hsecond : step s.phaseStart = .next s.phaseStart.phaseStart := by
    refine step_silent_phaseStart ?_ ?_ hc'
    · obtain ⟨_, _, _, _, e⟩ := s.phaseStart_writes
      rw [e]
      exact hl
    · exact (step_script hfirst).trans (by rw [hs, List.tail_nil])
  exact ⟨2, s.phaseStart.phaseStart, le_rfl, (run_succ_next hfirst).trans (run_succ_next hsecond), hlater⟩

end Sys2Proof.Machine
end

section
/-! SUPPORT. The phase starts of the motor generator (R122 to R127): what a due phase loads, drives and skips. -/

namespace Sys2Proof.Machine

@[simp] theorem State.readReg_takeSlot (s : State) (n : RegName) : s.takeSlot.readReg n = s.readReg n := rfl

/-- A due phase starts, at the price of one slot of the script (R41). -/
theorem step_due {s : State} {p : Phase} (h : s.due p) : step s = .next s.takeSlot.phaseStart := by
  obtain ⟨hl, hq, hc, -⟩ := h
  have hL : s.takeSlot.launched = true := hl
  rw [step_quiet hq, State.advance, if_pos hL, State.generate, State.takeSlot_cnt, if_pos hc]

theorem State.phaseStart_of_mOn {s : State} (h : s.phase = .mOn) : s.phaseStart = s.startMOn := by
  rw [State.phaseStart, h]

theorem State.phaseStart_of_mOff {s : State} (h : s.phase = .mOff) : s.phaseStart = s.startMOff := by
  rw [State.phaseStart, h]

/-- The timer and the count of draws after a load of `n`, by the sign of `n` (R112, R114). -/
theorem State.holdTicks_one_and_draws (s : State) (n : Int) :
    (0 ≤ n → s.holdTicks 1 n = n.toNat ∧ (if n < 0 then s.draws + 1 else s.draws) = s.draws) ∧
    (n < 0 → s.holdTicks 1 n = Config.negHold s.draws n ∧ (if n < 0 then s.draws + 1 else s.draws) = s.draws + 1) := by
  refine ⟨fun h => ⟨?_, if_neg h.not_gt⟩, fun h => ⟨s.holdTicks_neg 1 h, if_pos h⟩⟩
  rw [State.holdTicks_nonneg s 1 h, Nat.one_mul]

/-- The start of an on-phase that is not skipped (R122). -/
theorem State.startMOn_driven {s : State} (h : s.readReg .onDuration ≠ 10) :
    s.startMOn = { s with
      bus := some (s.readReg .outputLevel + s.readReg .ledMask)
      trace := s.trace ++ [.drive (s.readReg .outputLevel + s.readReg .ledMask)]
      cnt := s.holdTicks 1 (s.readReg .onDuration)
      draws := if s.readReg .onDuration < 0 then s.draws + 1 else s.draws
      phase := .mOff } := s.startMOn_eq.trans (if_neg h)

/-- Settles O32: by the sentinel, and then by what a load of `onDuration` leaves. -/
theorem onPhaseStart : Obligations.OnPhaseStart := by
  intro s hdue
  have hstep : step s = .next s.takeSlot.startMOn := by
    obtain ⟨-, -, -, hp⟩ := id hdue
    rw [step_due hdue, State.phaseStart_of_mOn (s := s.takeSlot) hp]
  refine ⟨fun hon => ?_, fun hon => ⟨_, hstep, ?_⟩⟩
  · rw [hstep, State.startMOn_neutral (s := s.takeSlot) hon]
    rfl
  · rw [State.startMOn_driven (s := s.takeSlot) hon]
    exact ⟨rfl, rfl, rfl, rfl, rfl, s.holdTicks_one_and_draws _⟩

/-- `OffGuard` in words, for both settings (R124). -/
theorem offGuardHolds_iff (g : OffGuard) (on off : Int) : offGuardHolds g on off = true ↔
    match g with
    | .literal => on ≠ 20
    | .corrected => off ≠ 0 := by
  cases g <;> exact decide_eq_true_iff

/-- The start of an off-phase that is not skipped (R123). -/
theorem State.startMOff_driven {s : State}
    (h : offGuardHolds s.offGuard (s.readReg .onDuration) (s.readReg .offDuration) = true) :
    s.startMOff = { s with
      bus := some (s.readReg .ledMask)
      trace := s.trace ++ [.drive (s.readReg .ledMask)]
      cnt := s.holdTicks 1 (s.readReg .offDuration)
      draws := if s.readReg .offDuration < 0 then s.draws + 1 else s.draws
      phase := .mOn } := s.startMOff_eq.trans (if_pos h)

/-- The start of an off-phase that is skipped (R123). -/
theorem State.startMOff_skipped {s : State}
    (h : ¬ offGuardHolds s.offGuard (s.readReg .onDuration) (s.readReg .offDuration) = true) :
    s.startMOff = { s with phase := .mOn } := s.startMOff_eq.trans (if_neg h)

/-- Settles O33: by the guard, and then by what a load of `offDuration` leaves. -/
theorem offPhaseStart : Obligations.OffPhaseStart := by
  intro s hdue runs
  have hguard : offGuardHolds s.offGuard (s.readReg .onDuration) (s.readReg .offDuration) = true ↔ runs :=
    offGuardHolds_iff ..
  have hstep : step s = .next s.takeSlot.startMOff := by
    obtain ⟨-, -, -, hp⟩ := id hdue
    rw [step_due hdue, State.phaseStart_of_mOff (s := s.takeSlot) hp]
  refine ⟨fun hskip => ?_, fun hruns => ⟨_, hstep, ?_⟩⟩
  · rw [hstep, State.startMOff_skipped (s := s.takeSlot) (mt hguard.1 hskip)]
    rfl
  · rw [State.startMOff_driven (s := s.takeSlot) (hguard.2 hruns)]
    exact ⟨rfl, rfl, rfl, rfl, rfl, s.holdTicks_one_and_draws _⟩

/-- When the durations share the period, either guard skips the off-phase at the full duty alone (R97, R124). -/
theorem offGuardHolds_iff_of_sum (g : OffGuard) {on off : Int} (hsum : on + off = 20) :
    offGuardHolds g on off = true ↔ on ≠ 20 := by
  rw [offGuardHolds_iff]
  cases g
  case literal => exact Iff.rfl
  case corrected => simp only; omega

/-- In a motor state of a run the durations share the period (R97). -/
theorem State.Inv.duty_sum {s : State} (h : s.Inv) (hp : s.profile = .motor) :
    s.readReg .onDuration + s.readReg .offDuration = 20 := by
  have hregs := h.regs
  rw [hp] at hregs
  obtain ⟨-, hsum, -⟩ := hregs
  exact hsum

/-- Settles O34: with the sum 20 both guards compare `onDuration` with 20, and the rest of the start is one rule. -/
theorem offGuardsAgree : Obligations.OffGuardsAgree := by
  refine ⟨fun on off => ⟨offGuardHolds_iff .literal on off, offGuardHolds_iff .corrected on off⟩, fun s hinv hp => ?_⟩
  have hsum := hinv.duty_sum hp
  have hagree : offGuardHolds .literal (s.readReg .onDuration) (s.readReg .offDuration) =
      offGuardHolds .corrected (s.readReg .onDuration) (s.readReg .offDuration) := by
    rw [Bool.eq_iff_iff, offGuardHolds_iff_of_sum _ hsum, offGuardHolds_iff_of_sum _ hsum]
  refine ⟨hagree, ?_⟩
  by_cases hruns : offGuardHolds .corrected (s.readReg .onDuration) (s.readReg .offDuration) = true
  · rw [State.startMOff_driven (by exact hruns), State.startMOff_driven (by exact hagree.trans hruns)]
    rfl
  · rw [State.startMOff_skipped (by exact hruns), State.startMOff_skipped (by rw [← hagree] at hruns; exact hruns)]

/-- Settles O35: a drive is no skip, so the on-phase is away from neutral and drives a high value, the off-phase a low
one. -/
theorem motorDriveValues : Obligations.MotorDriveValues := by
  intro s t v hinv hprofile hl hq hc hstep htrace
  have hregs : s.rf.MotorReach := by
    have h := hinv.regs
    rwa [hprofile] at h
  rw [step_due ⟨hl, hq, hc, rfl⟩] at hstep
  injection hstep with ht
  subst ht
  constructor <;> intro hp
  · rw [State.phaseStart_of_mOn (s := s.takeSlot) hp] at htrace
    by_cases hon : s.readReg .onDuration = 10
    · rw [State.startMOn_neutral (s := s.takeSlot) hon] at htrace
      simp at htrace
    · rw [State.startMOn_driven (s := s.takeSlot) hon] at htrace
      have hv : s.readReg .outputLevel + s.readReg .ledMask = v := by simpa using htrace
      exact hv ▸ hregs.high_value hon
  · rw [State.phaseStart_of_mOff (s := s.takeSlot) hp] at htrace
    by_cases hruns : offGuardHolds s.offGuard (s.readReg .onDuration) (s.readReg .offDuration) = true
    · rw [State.startMOff_driven (s := s.takeSlot) hruns] at htrace
      have hv : s.readReg .ledMask = v := by simpa using htrace
      exact hv ▸ hregs.low_value
    · rw [State.startMOff_skipped (s := s.takeSlot) hruns] at htrace
      simp at htrace

end Sys2Proof.Machine
end

section
/-! SUPPORT. The steady motor waveform (R128): the cycle of each well-formed duty as a whole state. -/

namespace Sys2Proof.Machine

/-- The start of an on-phase that runs, with a count that needs no draw (R122, R112). -/
theorem State.startMOn_nonneg {s : State} (hon : s.readReg .onDuration ≠ 10) (h : 0 ≤ s.readReg .onDuration) :
    s.startMOn = { s with
      bus := some (s.readReg .outputLevel + s.readReg .ledMask)
      trace := s.trace ++ [.drive (s.readReg .outputLevel + s.readReg .ledMask)]
      cnt := (s.readReg .onDuration).toNat
      phase := .mOff } := by
  obtain ⟨hticks, hdraws⟩ := (s.holdTicks_one_and_draws _).1 h
  rw [State.startMOn_driven hon, hticks, hdraws]

/-- The state in which a phase that drives `v` for `n` ticks ends, with `p` due next. -/
def State.phaseEnd (s : State) (v : Int) (n : Nat) (p : Phase) : State :=
  { s with bus := some v, trace := s.trace ++ phaseTrace v n, cnt := 0, phase := p }

section
variable {s : State}

/-- An on-phase of a silent host that runs without a draw, start and hold. -/
theorem run_silent_onPhase (hdue : s.due .mOn) (hs : s.script = []) (hon : s.readReg .onDuration ≠ 10)
    (h : 0 ≤ s.readReg .onDuration) :
    run ((s.readReg .onDuration).toNat + 1) s = .next
      (s.phaseEnd (s.readReg .outputLevel + s.readReg .ledMask) (s.readReg .onDuration).toNat .mOff) := by
  obtain ⟨hl, -, hc, hp⟩ := hdue
  exact run_silent_phase hl hs hc ((State.phaseStart_of_mOn hp).trans (State.startMOn_nonneg hon h))

/-- An off-phase of a silent host that runs without a draw, start and hold. -/
theorem run_silent_offPhase (hdue : s.due .mOff) (hs : s.script = [])
    (hsum : s.readReg .onDuration + s.readReg .offDuration = 20) (hon : s.readReg .onDuration < 20) :
    run ((s.readReg .offDuration).toNat + 1) s =
      .next (s.phaseEnd (s.readReg .ledMask) (s.readReg .offDuration).toNat .mOn) := by
  obtain ⟨hl, -, hc, hp⟩ := hdue
  have hguard : offGuardHolds s.offGuard (s.readReg .onDuration) (s.readReg .offDuration) = true :=
    (offGuardHolds_iff_of_sum _ hsum).2 (by omega)
  exact run_silent_phase hl hs hc ((State.phaseStart_of_mOff hp).trans (State.startMOff_nonneg hguard (by omega)))

/-- An on-phase at neutral is one step, which moves `phase` alone (R121). -/
theorem step_silent_onPhase_neutral (hdue : s.due .mOn) (hs : s.script = []) (hon : s.readReg .onDuration = 10) :
    step s = .next { s with phase := .mOff } := by
  obtain ⟨-, -, -, hp⟩ := id hdue
  rw [step_due hdue, State.takeSlot_of_silent hs, State.phaseStart_of_mOn hp, State.startMOn_neutral hon]

/-- An off-phase at the full duty is one step, which moves `phase` alone (R121). -/
theorem step_silent_offPhase_full (hdue : s.due .mOff) (hs : s.script = [])
    (hsum : s.readReg .onDuration + s.readReg .offDuration = 20) (hon : s.readReg .onDuration = 20) :
    step s = .next { s with phase := .mOn } := by
  obtain ⟨-, -, -, hp⟩ := id hdue
  rw [step_due hdue, State.takeSlot_of_silent hs, State.phaseStart_of_mOff hp,
    State.startMOff_skipped fun hguard => (offGuardHolds_iff_of_sum _ hsum).1 hguard hon]

variable (hdue : s.due .mOn) (hs : s.script = []) (hsum : s.readReg .onDuration + s.readReg .offDuration = 20)
include hdue hs hsum

/-- The cycle of a duty between neutral and full: both phases run. -/
theorem run_silent_cycle (h : 11 ≤ s.readReg .onDuration ∧ s.readReg .onDuration ≤ 19) :
    run 22 s = .next { s with
      bus := some (s.readReg .ledMask)
      trace := s.trace ++ (phaseTrace (s.readReg .outputLevel + s.readReg .ledMask) (s.readReg .onDuration).toNat ++
        phaseTrace (s.readReg .ledMask) (s.readReg .offDuration).toNat) } := by
  have hlen : 22 = (s.readReg .onDuration).toNat + 1 + ((s.readReg .offDuration).toNat + 1) := by omega
  have hlt : s.readReg .onDuration < 20 := by omega
  have hon := run_silent_onPhase hdue hs (by omega) (by omega)
  obtain ⟨hl, hq, hc, hp⟩ := hdue
  rw [hlen, run_add hon]
  refine (run_silent_offPhase (s := s.phaseEnd _ _ .mOff) ⟨hl, hq, rfl, rfl⟩ hs hsum hlt).trans ?_
  rw [hc, hp, ← List.append_assoc]
  rfl

/-- The cycle of the full duty: the off-phase is skipped. -/
theorem run_silent_cycle_full (h : s.readReg .onDuration = 20) :
    run 22 s = .next { s with
      bus := some (s.readReg .outputLevel + s.readReg .ledMask)
      trace := s.trace ++ phaseTrace (s.readReg .outputLevel + s.readReg .ledMask) 20 } := by
  have hlen : 22 = (s.readReg .onDuration).toNat + 1 + 1 := by omega
  have htwenty : (s.readReg .onDuration).toNat = 20 := by omega
  have hon := run_silent_onPhase hdue hs (by omega) (by omega)
  obtain ⟨hl, hq, hc, hp⟩ := hdue
  rw [hlen, run_add hon,
    run_succ_next (step_silent_offPhase_full (s := s.phaseEnd _ _ .mOff) ⟨hl, hq, rfl, rfl⟩ hs hsum h), hc, hp, htwenty]
  rfl

/-- The cycle at neutral: the on-phase is skipped. -/
theorem run_silent_cycle_neutral (h : s.readReg .onDuration = 10) :
    run 12 s = .next { s with
      bus := some (s.readReg .ledMask)
      trace := s.trace ++ phaseTrace (s.readReg .ledMask) 10 } := by
  have hlen : 12 = (s.readReg .offDuration).toNat + 1 + 1 := by omega
  have hoff : (s.readReg .offDuration).toNat = 10 := by omega
  have hlt : s.readReg .onDuration < 20 := by omega
  have hon := step_silent_onPhase_neutral hdue hs h
  obtain ⟨hl, hq, hc, hp⟩ := hdue
  rw [hlen, run_succ_next hon]
  refine (run_silent_offPhase (s := { s with phase := .mOff }) ⟨hl, hq, hc, rfl⟩ hs hsum hlt).trans ?_
  rw [hc, hp, ← hoff]
  rfl

end

/-- Settles O36: the cycle of each duty, repeated. -/
theorem steadyMotorWaveform : Obligations.SteadyMotorWaveform := by
  intro s n hdue hs hoff on high low
  have hsum : s.readReg .onDuration + s.readReg .offDuration = 20 := by omega
  refine ⟨fun h => ?_, fun h => ?_, fun h => ?_⟩
  · rw [← show s.readReg .offDuration = 20 - on from hoff]
    exact run_cycles (fun bus trace => run_silent_cycle (s := { s with bus := bus, trace := trace }) hdue hs hsum h) n
  · exact run_cycles (fun bus trace =>
      run_silent_cycle_full (s := { s with bus := bus, trace := trace }) hdue hs hsum h) n
  · exact run_cycles (fun bus trace =>
      run_silent_cycle_neutral (s := { s with bus := bus, trace := trace }) hdue hs hsum h) n

/-- Settles O37: the cycle of the duty 16. -/
theorem endToEndCycle : Obligations.EndToEndCycle := by
  intro s hdue hs hled hlevel hon hoff
  refine ⟨_, run_silent_cycle hdue hs (by omega) (by omega), ?_⟩
  simp [hled, hlevel, hon, hoff, phaseTrace]

end Sys2Proof.Machine
end

section
/-! SUPPORT. Motor cycles in ticks (R130, R132): how long each phase holds, and what a silent host leaves between. -/

namespace Sys2Proof.Machine

/-- The hold of the on-phase due, none at neutral (R122, R112, R114). -/
def State.onHold (s : State) : Nat := if s.readReg .onDuration = 10 then 0 else s.holdTicks 1 (s.readReg .onDuration)

/-- The hold of the off-phase due (R123, R112, R114); a skipped off-phase holds the `offDuration` of 0. -/
def State.offHold (s : State) : Nat := s.holdTicks 1 (s.readReg .offDuration)

/-- A load holds its count at least, whatever the draw. -/
theorem State.toNat_le_holdTicks (s : State) (n : Int) : n.toNat ≤ s.holdTicks 1 n := by
  rcases lt_or_ge n 0 with h | h
  · omega
  · rw [State.holdTicks_nonneg s 1 h, Nat.one_mul]

theorem State.toNat_le_offHold (s : State) : (s.readReg .offDuration).toNat ≤ s.offHold := s.toNat_le_holdTicks _

theorem State.offHold_nonneg {s : State} (h : 0 ≤ s.readReg .offDuration) :
    s.offHold = (s.readReg .offDuration).toNat := by
  rw [State.offHold, State.holdTicks_nonneg s 1 h, Nat.one_mul]

theorem State.phaseStart_cnt_of_mOn {s : State} (hp : s.phase = .mOn) (hc : s.cnt = 0) :
    s.phaseStart.cnt = s.onHold := by
  rw [State.phaseStart_of_mOn hp, State.onHold]
  by_cases hon : s.readReg .onDuration = 10
  · rw [State.startMOn_neutral hon, if_pos hon, ← hc]
  · rw [State.startMOn_driven hon, if_neg hon]

theorem State.phaseStart_draws_of_mOn {s : State} (hp : s.phase = .mOn) :
    s.phaseStart.draws = if s.readReg .onDuration < 0 then s.draws + 1 else s.draws := by
  rw [State.phaseStart_of_mOn hp]
  by_cases hon : s.readReg .onDuration = 10
  · rw [State.startMOn_neutral hon, if_neg (by omega)]
  · rw [State.startMOn_driven hon]

theorem State.phaseStart_cnt_of_mOff {s : State} (hp : s.phase = .mOff) (hc : s.cnt = 0)
    (hsum : s.readReg .onDuration + s.readReg .offDuration = 20) : s.phaseStart.cnt = s.offHold := by
  rw [State.phaseStart_of_mOff hp]
  by_cases hruns : offGuardHolds s.offGuard (s.readReg .onDuration) (s.readReg .offDuration) = true
  · rw [State.startMOff_driven hruns]
    rfl
  · have hoff : s.readReg .offDuration = 0 := by
      rw [offGuardHolds_iff_of_sum _ hsum] at hruns
      omega
    rw [State.startMOff_skipped hruns, State.offHold_nonneg hoff.ge, hoff]
    exact hc

theorem State.phaseStart_phase_of {s : State} {p : Phase} (hp : s.phase = p) : s.phaseStart.phase = p.next := by
  rw [State.phaseStart_phase, hp]

/-- A phase start takes no time (R111). -/
@[simp] theorem State.phaseStart_ticks (s : State) : s.phaseStart.ticks = s.ticks := by
  unfold State.phaseStart
  rcases s.phase with _ | _ | _ | _ | _
  · simp only [State.startMOn_eq]
    split <;> simp [State.ticks]
  · simp only [State.startMOff_eq]
    split <;> simp [State.ticks]
  · simp [State.startSX, State.pulsePhase_eq, State.ticks]
  · simp [State.startSY, State.pulsePhase_eq, State.ticks]
  · simp [State.startSIdle_eq, State.ticks]

@[simp] theorem State.phaseStart_script (s : State) : s.phaseStart.script = s.script := by
  obtain ⟨_, _, _, _, e⟩ := s.phaseStart_writes
  rw [e]

@[simp] theorem State.phaseStart_launched (s : State) : s.phaseStart.launched = s.launched := by
  obtain ⟨_, _, _, _, e⟩ := s.phaseStart_writes
  rw [e]
  rfl

theorem State.readReg_of_rf {s t : State} (h : t.rf = s.rf) (n : RegName) : t.readReg n = s.readReg n := by
  rw [State.readReg, h, State.readReg]

theorem State.due_of_silent {s : State} {p : Phase} (hl : s.launched = true) (hs : s.script = []) (hc : s.cnt = 0)
    (hp : s.phase = p) : s.due p :=
  ⟨hl, State.rxByte_of_silent hs, hc, hp⟩

/-- With a silent host a hold in progress brings the phase due next, with the same registers (R112). -/
theorem run_silent_to_due {s : State} (hl : s.launched = true) (hs : s.script = []) :
    ∃ t, run s.cnt s = .next t ∧ t.due s.phase ∧ t.script = [] ∧ t.rf = s.rf ∧ t.ticks = s.ticks + s.cnt :=
  ⟨_, run_silent_hold s.cnt hl hs rfl, State.due_of_silent hl hs rfl rfl, hs, rfl, by simp [State.ticks]⟩

/-- With a silent host a phase start brings the next phase due, after the hold that it loads. -/
theorem run_silent_to_next_due {s : State} {p : Phase} (hdue : s.due p) (hs : s.script = []) :
    ∃ t, run (s.phaseStart.cnt + 1) s = .next t ∧ t.due p.next ∧ t.script = [] ∧ t.rf = s.rf ∧
      t.ticks = s.ticks + s.phaseStart.cnt := by
  obtain ⟨hl, -, hc, rfl⟩ := id hdue
  obtain ⟨t, hrun, hdue', hs', hrf, hticks⟩ := run_silent_to_due (s := s.phaseStart)
    (s.phaseStart_launched.trans hl) (s.phaseStart_script.trans hs)
  rw [State.phaseStart_phase] at hdue'
  rw [State.phaseStart_rf] at hrf
  rw [State.phaseStart_ticks] at hticks
  exact ⟨t, (run_succ_next (step_silent_phaseStart hl hs hc)).trans hrun, hdue', hs', hrf, hticks⟩

/-- A run of a silent host is a `WAIT` (R81). -/
theorem State.waited_of_silent {s t : State} {k n : Nat} (hs : s.script = []) (hrun : run k s = .next t)
    (hn : t.ticks = s.ticks + n) : s.waited n t :=
  ⟨k, by simp [hs], hrun, hn⟩

/-- Settles O40: the hold in progress ends, and then at most the off-phase of the registers passes. -/
theorem commandTakesEffectWithinACycle : Obligations.CommandTakesEffectWithinACycle := by
  intro s hprofile hl hs hfits ⟨hlo, hhi, hsum⟩
  obtain ⟨t, hrun, hdue, hs', hrf, hticks⟩ := run_silent_to_due hl hs
  rcases hphase : s.phase with _ | _ | _ | _ | _ <;> rw [hphase] at hfits hdue
  case mOn => exact ⟨s.cnt, t, State.waited_of_silent hs hrun hticks, hdue, hrf, Nat.le_add_right ..⟩
  case mOff =>
    obtain ⟨u, hrun', hdue', -, hrf', hticks'⟩ := run_silent_to_next_due hdue hs'
    have hread := State.readReg_of_rf hrf
    have hhold : t.phaseStart.cnt = (s.readReg .offDuration).toNat := by
      obtain ⟨-, -, hc, hp⟩ := hdue
      change s.readReg .onDuration ≤ 20 at hhi
      change s.readReg .offDuration = 20 - s.readReg .onDuration at hsum
      rw [State.phaseStart_cnt_of_mOff hp hc (by rw [hread, hread]; omega), State.offHold_nonneg (by rw [hread]; omega),
        hread]
    exact ⟨s.cnt + (s.readReg .offDuration).toNat, u,
      State.waited_of_silent hs ((run_add hrun).trans hrun') (by omega), hdue', hrf'.trans hrf, le_rfl⟩
  all_goals contradiction

end Sys2Proof.Machine
end

section
/-! SUPPORT. The least length of a motor cycle whose durations stay unchanged (R132), whatever bytes arrive. -/

namespace Sys2Proof.Machine

/-- A step of a launched core starts the due phase, or passes ticks from the timer to the trace (R41, R111). -/
theorem step_phaseStart_or_keeps_time {s t : State} (hl : s.launched = true) (h : step s = .next t) :
    t.launched = true ∧ (s.cnt = 0 ∧ t = s.takeSlot.phaseStart ∨
      t.phase = s.phase ∧ t.ticks + t.cnt = s.ticks + s.cnt ∧ s.ticks ≤ t.ticks) := by
  rcases step_cases h with ⟨b, hb, -⟩ | ⟨-, hn, -⟩ | ⟨-, -, hc, rfl⟩ | ⟨-, -, hc, rfl⟩
  · obtain ⟨rf, rfl⟩ := step_byte_eq hb h
    exact ⟨hl, .inr ⟨rfl, rfl, le_rfl⟩⟩
  · rw [hl] at hn
    contradiction
  · exact ⟨(State.phaseStart_launched _).trans hl, .inl ⟨hc, rfl⟩⟩
  · have hticks : s.takeSlot.tick.ticks = s.ticks + 1 := by simp [State.ticks]
    have hcnt : s.takeSlot.tick.cnt = s.cnt - 1 := rfl
    exact ⟨hl, .inr ⟨rfl, by omega, by omega⟩⟩

/-- What every step from a state with `Q` keeps holds at the end of a run whose earlier states have `Q`. -/
theorem run_keeps {P Q : State → Prop} (hstep : ∀ u v, Q u → P u → step u = .next v → P v) {k : Nat} {s t : State}
    (hQ : ∀ i u, i < k → run i s = .next u → Q u) (hs : P s) (h : run k s = .next t) : P t := by
  induction k generalizing s with
  | zero =>
    injection h with h
    exact h ▸ hs
  | succ k ih =>
    obtain ⟨u, hsu, hrun⟩ := exists_step_of_run_succ h
    have hu : P u := hstep s u (hQ 0 s (by omega) rfl) hs hsu
    exact ih (fun i v hi hv => hQ (i + 1) v (by omega) ((run_succ_next hsu).trans hv)) hu hrun

/-- The least hold of an on-phase of `on`: a draw may be 0 (R114). -/
def leastOnHold (on : Int) : Nat := if on = 10 then 0 else on.toNat

theorem State.leastOnHold_le_onHold (s : State) : leastOnHold (s.readReg .onDuration) ≤ s.onHold := by
  rw [leastOnHold, State.onHold]
  split
  · exact le_rfl
  · exact s.toNat_le_holdTicks _

/-- The longer of the two phases holds for 10 ticks at least, and for more than 20 when the other's count is negative
(R28, R132). -/
theorem cycle_least {on off : Int} (hsum : on + off = 20) :
    10 ≤ leastOnHold on + off.toNat ∧ (on < 0 ∨ off < 0 → 20 ≤ leastOnHold on + off.toNat) := by
  unfold leastOnHold
  split <;> omega

/-- How far a launched core has come in a cycle that started at time `T`: within its on-phase, within its off-phase, or
past both, of which the first holds `a` ticks at least and the second `b`. -/
def State.CycleProgress (T a b : Nat) (u : State) : Prop :=
  u.launched = true ∧
    (u.phase = .mOff ∧ T + a ≤ u.ticks + u.cnt ∨ u.phase = .mOn ∧ T + a + b ≤ u.ticks + u.cnt ∨ T + a + b ≤ u.ticks)

/-- At an end of the off-phase both phases are past. -/
theorem State.CycleProgress.ended {T a b : Nat} {u : State} (h : u.CycleProgress T a b) (hp : u.phase = .mOn)
    (hc : u.cnt = 0) : T + a + b ≤ u.ticks := by
  obtain ⟨-, ⟨hp', -⟩ | ⟨-, h⟩ | h⟩ := h
  · rw [hp] at hp'
    contradiction
  · omega
  · exact h

/-- A step moves a cycle forward; the off-phase's start gives the off-phase its least hold. -/
theorem State.CycleProgress.kept_by_step {T a b : Nat} {u v : State}
    (hsum : u.readReg .onDuration + u.readReg .offDuration = 20) (hb : b = (u.readReg .offDuration).toNat)
    (h : u.CycleProgress T a b) (hstep : step u = .next v) : v.CycleProgress T a b := by
  obtain ⟨hl, h⟩ := h
  obtain ⟨hl', hcases⟩ := step_phaseStart_or_keeps_time hl hstep
  refine ⟨hl', ?_⟩
  rcases hcases with ⟨hc, rfl⟩ | ⟨hp, htime, hle⟩
  · have hticks : u.takeSlot.phaseStart.ticks = u.ticks := u.takeSlot.phaseStart_ticks
    rcases h with ⟨hp, h⟩ | ⟨-, h⟩ | h
    · have hcnt : u.takeSlot.phaseStart.cnt = u.offHold := State.phaseStart_cnt_of_mOff (s := u.takeSlot) hp hc hsum
      have hhold := u.toNat_le_offHold
      have hp' : u.takeSlot.phaseStart.phase = .mOn := State.phaseStart_phase_of (s := u.takeSlot) hp
      exact .inr (.inl ⟨hp', by omega⟩)
    all_goals exact .inr (.inr (by omega))
  · rcases h with ⟨hp', h⟩ | ⟨hp', h⟩ | h
    · exact .inl ⟨hp.trans hp', by omega⟩
    · exact .inr (.inl ⟨hp.trans hp', by omega⟩)
    · exact .inr (.inr (by omega))

/-- `u` has the durations of `s`. -/
def State.SameDurations (s u : State) : Prop :=
  u.readReg .onDuration = s.readReg .onDuration ∧ u.readReg .offDuration = s.readReg .offDuration

/-- From an on-phase's start to a later end of an off-phase, with the durations unchanged on the way, both phases
pass, each with its least hold at least (R132). -/
theorem ticks_of_undisturbed_cycle {s t : State} {k : Nat} (hdue : s.due .mOn)
    (hsum : s.readReg .onDuration + s.readReg .offDuration = 20)
    (hsame : ∀ i u, i < k + 1 → run i s = .next u → s.SameDurations u)
    (hrun : run (k + 1) s = .next t) (hp : t.phase = .mOn) (hc : t.cnt = 0) :
    s.ticks + leastOnHold (s.readReg .onDuration) + (s.readReg .offDuration).toNat ≤ t.ticks := by
  have hstart := step_due hdue
  obtain ⟨hl, -, hcnt, hphase⟩ := hdue
  have hfirst : s.takeSlot.phaseStart.CycleProgress s.ticks (leastOnHold (s.readReg .onDuration))
      (s.readReg .offDuration).toNat := by
    have hticks : s.takeSlot.phaseStart.ticks = s.ticks := s.takeSlot.phaseStart_ticks
    have hhold : s.takeSlot.phaseStart.cnt = s.onHold := State.phaseStart_cnt_of_mOn (s := s.takeSlot) hphase hcnt
    have hleast := s.leastOnHold_le_onHold
    have hp' : s.takeSlot.phaseStart.phase = .mOff := State.phaseStart_phase_of (s := s.takeSlot) hphase
    exact ⟨(State.phaseStart_launched _).trans hl, .inl ⟨hp', by omega⟩⟩
  rw [run_succ_next hstart] at hrun
  refine State.CycleProgress.ended (run_keeps (Q := s.SameDurations) ?_ ?_ hfirst hrun) hp hc
  · exact fun u v ⟨hon, hoff⟩ hprogress hstep => hprogress.kept_by_step (by rw [hon, hoff, hsum]) (by rw [hoff]) hstep
  · exact fun i u hi hu => hsame (i + 1) u (by omega) ((run_succ_next hstart).trans hu)

/-- With a silent host the on-phase comes due again, after the hold of one phase and then of the other (R132). -/
theorem silent_cycle_takes_ten_ticks {s : State} (hdue : s.due .mOn) (hs : s.script = [])
    (hsum : s.readReg .onDuration + s.readReg .offDuration = 20) :
    ∃ (n : Nat) (t : State), s.waited n t ∧ 10 ≤ n ∧ t.phase = .mOn ∧ t.cnt = 0 ∧ t.rf = s.rf := by
  obtain ⟨u, hrun, hdue', hs', hrf, hticks⟩ := run_silent_to_next_due hdue hs
  obtain ⟨t, hrun', ⟨-, -, hc', hp'⟩, -, hrf', hticks'⟩ := run_silent_to_next_due hdue' hs'
  obtain ⟨-, -, hc, hp⟩ := hdue
  obtain ⟨-, -, huc, hup⟩ := hdue'
  have hread := State.readReg_of_rf hrf
  have hon : leastOnHold (s.readReg .onDuration) ≤ s.phaseStart.cnt :=
    s.leastOnHold_le_onHold.trans_eq (State.phaseStart_cnt_of_mOn hp hc).symm
  have hoff : (s.readReg .offDuration).toNat ≤ u.phaseStart.cnt := by
    rw [State.phaseStart_cnt_of_mOff hup huc (by rw [hread, hread, hsum]), ← hread]
    exact u.toNat_le_offHold
  obtain ⟨hten, -⟩ := cycle_least hsum
  exact ⟨s.phaseStart.cnt + u.phaseStart.cnt, t,
    State.waited_of_silent hs ((run_add hrun).trans hrun') (by omega), by omega, hp', hc', hrf'.trans hrf⟩

/-- An on-phase of a run is one of a motor core (R31). -/
theorem State.Inv.motor_of_mOn {s : State} (h : s.Inv) (hp : s.phase = .mOn) : s.profile = .motor := by
  have hfits := h.phase_fits
  rw [hp] at hfits
  cases hprofile : s.profile
  case motor => rfl
  case servo =>
    rw [hprofile] at hfits
    contradiction

/-- Settles O38: the two phases' least holds, and the cycle of a silent host. -/
theorem undisturbedCycleTakesTenTicks : Obligations.UndisturbedCycleTakesTenTicks := by
  intro s hinv hdue
  have hsum : s.readReg .onDuration + s.readReg .offDuration = 20 := by
    obtain ⟨-, -, -, hp⟩ := hdue
    exact hinv.duty_sum (hinv.motor_of_mOn hp)
  obtain ⟨hten, htwenty⟩ := cycle_least hsum
  refine ⟨fun k t hk hsame hrun hp hc => ?_, fun hs => silent_cycle_takes_ten_ticks hdue hs hsum⟩
  obtain ⟨k, rfl⟩ := Nat.exists_eq_add_one.2 hk
  have hticks := ticks_of_undisturbed_cycle hdue hsum hsame hrun hp hc
  exact ⟨by omega, fun hneg => by have := htwenty hneg; omega⟩

end Sys2Proof.Machine
end

section
/-! SUPPORT. A direction byte within the on-phase (R131): the hold is that of the old registers, the off-phase that of
the new. -/

namespace Sys2Proof.Machine

/-- A run and one step more. -/
theorem run_then_step {k : Nat} {s u t : State} (h : run k s = .next u) (hu : step u = .next t) :
    run (k + 1) s = .next t :=
  (run_add (k := 1) h).trans (run_succ_next hu)

/-- The `onDuration` that a direction byte writes (R92, R93). -/
def directionOn (b : Byte) : Int := if 64 ≤ b.toNat then byteVal b - 54 else byteVal b - 22

/-- The `outputLevel` that a direction byte writes (R92, R93). -/
def directionLevel (b : Byte) : Int := if 64 ≤ b.toNat then 5 else 9

/-- A direction byte writes its level and its split of the period (R92, R93). -/
theorem byteEffect_direction {b : Byte} (hb : b.toNat < 128) (rf : RegFile) : byteEffect .motor b rf = { rf with
    outputLevel := regOf (directionLevel b)
    onDuration := regOf (directionOn b)
    offDuration := regOf (20 - directionOn b) } := by
  rw [byteEffect, if_neg (by omega), directionOn, directionLevel]
  split
  · have hoff : 20 - (byteVal b - 54) = 74 - byteVal b := by omega
    rw [hoff]
    rfl
  · have hoff : 20 - (byteVal b - 22) = 42 - byteVal b := by omega
    rw [hoff]
    rfl

theorem regVal_directionLevel (b : Byte) : regVal (regOf (directionLevel b)) = directionLevel b := by
  rw [directionLevel]
  split <;> decide

theorem directionOn_range {b : Byte} (hb : b.toNat < 128) : -22 ≤ directionOn b ∧ directionOn b ≤ 73 := by
  have hv : byteVal b = b.toNat := rfl
  rw [directionOn]
  split <;> omega

/-- The state at the end of the hold of `s`, during which the byte `b` arrived and no other. -/
def State.heldWith (s : State) (b : Byte) : State :=
  { s with
    rf := byteEffect s.profile b s.rf
    cnt := 0
    trace := s.trace ++ List.replicate s.cnt .tick
    script := [] }

/-- A byte anywhere in a hold, or at its end, leaves the rest of the hold (R59). -/
theorem run_hold_with_byte {b : Byte} (j : Nat) {s : State} (hl : s.launched = true) (hj : j ≤ s.cnt)
    (hs : s.script = List.replicate j Slot.idle ++ [Slot.byte b]) : run (s.cnt + 1) s = .next (s.heldWith b) := by
  induction j generalizing s with
  | zero =>
    have hb : s.rxByte = some b := by simp [State.rxByte, hs]
    have hs' : s.takeSlot.script = [] := by simp [hs]
    rw [run_succ_next (step_byte_enabled hb (State.rxEnabled_of_launched hl)),
      run_silent_hold s.cnt (s := { s.takeSlot with rf := byteEffect s.profile b s.rf }) hl hs' rfl, hs']
    rfl
  | succ j ih =>
    have hq : s.rxByte = none := by simp [State.rxByte, hs, List.replicate_succ]
    obtain ⟨n, hn⟩ := Nat.exists_eq_add_one.2 (show 0 < s.cnt by omega)
    have hcnt : s.takeSlot.tick.cnt = n := by simp [hn]
    have hrun := ih (s := s.takeSlot.tick) hl (by omega) (by simp [hs, List.replicate_succ])
    rw [hn, run_succ_next (step_tick hl hq (by omega)), ← hcnt, hrun]
    simp [State.heldWith, State.tick, hn, List.replicate_succ]

section
variable {s : State} {b : Byte} (hp : s.profile = .motor) (hb : b.toNat < 128)
include hp hb

theorem State.heldWith_rf : (s.heldWith b).rf = { s.rf with
    outputLevel := regOf (directionLevel b)
    onDuration := regOf (directionOn b)
    offDuration := regOf (20 - directionOn b) } := by
  rw [State.heldWith, hp]
  exact byteEffect_direction hb s.rf

theorem State.readReg_heldWith_onDuration : (s.heldWith b).readReg .onDuration = directionOn b := by
  obtain ⟨hlo, hhi⟩ := directionOn_range hb
  rw [State.readReg, State.heldWith_rf hp hb]
  exact (regVal_duty hlo hhi).1

theorem State.readReg_heldWith_offDuration : (s.heldWith b).readReg .offDuration = 20 - directionOn b := by
  obtain ⟨hlo, hhi⟩ := directionOn_range hb
  rw [State.readReg, State.heldWith_rf hp hb]
  exact (regVal_duty hlo hhi).2

theorem State.readReg_heldWith_outputLevel : (s.heldWith b).readReg .outputLevel = directionLevel b := by
  rw [State.readReg, State.heldWith_rf hp hb]
  exact regVal_directionLevel b

theorem State.readReg_heldWith_ledMask : (s.heldWith b).readReg .ledMask = s.readReg .ledMask := by
  rw [State.readReg, State.heldWith_rf hp hb]
  rfl

theorem State.heldWith_duty_sum :
    (s.heldWith b).readReg .onDuration + (s.heldWith b).readReg .offDuration = 20 := by
  rw [State.readReg_heldWith_onDuration hp hb, State.readReg_heldWith_offDuration hp hb]
  omega

end

theorem State.heldWith_due {s : State} {p : Phase} (b : Byte) (hl : s.launched = true) (hp : s.phase = p) :
    (s.heldWith b).due p :=
  State.due_of_silent hl rfl rfl hp

theorem State.heldWith_ticks (s : State) (b : Byte) : (s.heldWith b).ticks = s.ticks + s.cnt := by
  simp [State.heldWith, State.ticks]

/-- The on-phase's hold by the three forms of `onDuration`. -/
theorem State.onHold_eq (s : State) : s.onHold = if s.readReg .onDuration = 10 then 0
    else if 0 ≤ s.readReg .onDuration then (s.readReg .onDuration).toNat
    else Config.negHold s.draws (s.readReg .onDuration) := by
  rw [State.onHold, State.holdTicks, Nat.one_mul]

section
variable {s : State} {b : Byte} {j : Nat} (hprofile : s.profile = .motor) (hb : b.toNat < 128)
  (hl : s.launched = true) (hphase : s.phase = .mOff) (hj : j ≤ s.cnt)
  (hs : s.script = List.replicate j Slot.idle ++ [Slot.byte b])
include hprofile hb hl hphase hj hs

/-- A byte of the full duty: the off-phase is skipped, and the next on-phase has the new level and duty (R131). -/
theorem transition_to_full (hon : directionOn b = 20) :
    ∃ t u, run (s.cnt + 2) s = .next t ∧ t.phase = .mOn ∧ t.cnt = 0 ∧ t.bus = s.bus ∧
      t.trace = s.trace ++ List.replicate s.cnt Event.tick ∧
      step t = .next u ∧ u.cnt = 20 ∧ u.bus = some (directionLevel b + s.readReg .ledMask) := by
  have hdue := s.heldWith_due b hl hphase
  have hon' := (State.readReg_heldWith_onDuration hprofile hb).trans hon
  have hrun : run (s.cnt + 2) s = .next { s.heldWith b with phase := .mOn } :=
    run_then_step (run_hold_with_byte j hl hj hs)
      (step_silent_offPhase_full hdue rfl (State.heldWith_duty_sum hprofile hb) hon')
  have hnext : step { s.heldWith b with phase := .mOn } = .next { s.heldWith b with phase := .mOn }.startMOn :=
    step_due (State.due_of_silent hl rfl rfl rfl)
  have hne : (s.heldWith b).readReg .onDuration ≠ 10 := by omega
  have hnonneg : 0 ≤ (s.heldWith b).readReg .onDuration := by omega
  rw [State.startMOn_nonneg (by exact hne) (by exact hnonneg)] at hnext
  refine ⟨_, _, hrun, rfl, rfl, rfl, rfl, hnext, congrArg Int.toNat hon', ?_⟩
  rw [← State.readReg_heldWith_outputLevel hprofile hb, ← State.readReg_heldWith_ledMask hprofile hb]
  rfl

/-- A byte below the full duty: the off-phase has the new `offDuration` (R131). -/
theorem transition_to_partial (hon : directionOn b < 20) :
    ∃ t, run (s.cnt + 2 + (20 - directionOn b).toNat) s = .next t ∧ t.phase = .mOn ∧ t.cnt = 0 ∧
      t.bus = some (s.readReg .ledMask) ∧
      t.trace = s.trace ++ List.replicate s.cnt Event.tick ++
        phaseTrace (s.readReg .ledMask) (20 - directionOn b).toNat := by
  have hdue := s.heldWith_due b hl hphase
  have hoff := run_silent_offPhase hdue rfl (State.heldWith_duty_sum hprofile hb)
    (by rw [State.readReg_heldWith_onDuration hprofile hb]; exact hon)
  rw [State.readReg_heldWith_offDuration hprofile hb, State.readReg_heldWith_ledMask hprofile hb] at hoff
  have hlen : s.cnt + 2 + (20 - directionOn b).toNat = s.cnt + 1 + ((20 - directionOn b).toNat + 1) := by omega
  rw [hlen]
  exact ⟨_, (run_add (run_hold_with_byte j hl hj hs)).trans hoff, rfl, rfl, rfl, rfl⟩

/-- A byte past the full duty: the off-phase is driven, and its hold is the next draw (R131, R114). -/
theorem transition_to_draw (hon : 20 < directionOn b) :
    ∃ t, run (s.cnt + 2) s = .next t ∧ t.phase = .mOn ∧ t.cnt = Config.negHold s.draws (20 - directionOn b) ∧
      t.bus = some (s.readReg .ledMask) ∧
      t.trace = s.trace ++ List.replicate s.cnt Event.tick ++ [Event.drive (s.readReg .ledMask)] := by
  have hdue := s.heldWith_due b hl hphase
  have hruns : offGuardHolds s.offGuard ((s.heldWith b).readReg .onDuration) ((s.heldWith b).readReg .offDuration) =
      true := by
    rw [offGuardHolds_iff_of_sum _ (State.heldWith_duty_sum hprofile hb), State.readReg_heldWith_onDuration hprofile hb]
    omega
  have hoff : step (s.heldWith b) = .next (s.heldWith b).startMOff :=
    (step_due hdue).trans (congrArg _ (State.phaseStart_of_mOff hphase))
  rw [State.startMOff_driven hruns, State.readReg_heldWith_offDuration hprofile hb,
    State.readReg_heldWith_ledMask hprofile hb, State.holdTicks_neg _ _ (by omega)] at hoff
  exact ⟨_, run_then_step (run_hold_with_byte j hl hj hs) hoff, rfl, rfl, rfl, rfl⟩

end

section
variable {s : State} {b : Byte} {j : Nat} (hprofile : s.profile = .motor) (hb : b.toNat < 128)
  (hl : s.launched = true) (hphase : s.phase = .mOn) (hc : s.cnt = 0)
  (hs : s.script = Slot.idle :: (List.replicate j Slot.idle ++ [Slot.byte b])) (hj : j ≤ s.onHold)
include hprofile hb hl hphase hc hs hj

/-- An on-phase with a byte in its hold has the old hold and draw, and leaves the off-phase due with the new
registers (R131). -/
theorem run_onPhase_with_byte : ∃ u, run (s.onHold + 2) s = .next u ∧ u.due .mOff ∧ u.script = [] ∧
    u.ticks = s.ticks + s.onHold ∧ u.draws = (if s.readReg .onDuration < 0 then s.draws + 1 else s.draws) ∧
    u.readReg .onDuration = directionOn b ∧ u.readReg .offDuration = 20 - directionOn b := by
  have hdue : s.due .mOn := ⟨hl, by simp [State.rxByte, hs], hc, hphase⟩
  have hl' : s.takeSlot.phaseStart.launched = true := (State.phaseStart_launched _).trans hl
  have hphase' : s.takeSlot.phaseStart.phase = .mOff := State.phaseStart_phase_of (s := s.takeSlot) hphase
  have hprofile' : s.takeSlot.phaseStart.profile = .motor := by
    obtain ⟨hkept, -⟩ := s.takeSlot.phaseStart_frame
    exact hkept.trans hprofile
  have hcnt : s.takeSlot.phaseStart.cnt = s.onHold := State.phaseStart_cnt_of_mOn (s := s.takeSlot) hphase hc
  have hticks : s.takeSlot.phaseStart.ticks = s.ticks := s.takeSlot.phaseStart_ticks
  have hrun := run_hold_with_byte j (b := b) hl' (by omega) (by simp [hs])
  rw [hcnt] at hrun
  refine ⟨_, (run_succ_next (step_due hdue)).trans hrun, State.heldWith_due b hl' hphase', rfl, ?_,
    State.phaseStart_draws_of_mOn (s := s.takeSlot) hphase, State.readReg_heldWith_onDuration hprofile' hb,
    State.readReg_heldWith_offDuration hprofile' hb⟩
  rw [State.heldWith_ticks, hticks, hcnt]

/-- The cycle of a byte up to the full duty lasts the old on-phase's hold and the new `offDuration` (R131). -/
theorem transitional_cycle (hon : directionOn b ≤ 20) :
    ∃ t, run (s.onHold + 3 + (20 - directionOn b).toNat) s = .next t ∧ t.phase = .mOn ∧ t.cnt = 0 ∧
      t.ticks = s.ticks + s.onHold + (20 - directionOn b).toNat ∧
      t.readReg .onDuration = directionOn b ∧ t.readReg .offDuration = 20 - directionOn b := by
  obtain ⟨u, hrun, hdue, hs', hticks, -, hon', hoff'⟩ := run_onPhase_with_byte hprofile hb hl hphase hc hs hj
  obtain ⟨t, hrun', ⟨-, -, hct, hpt⟩, -, hrf, hticks'⟩ := run_silent_to_next_due hdue hs'
  obtain ⟨-, -, hcu, hpu⟩ := hdue
  have hcnt : u.phaseStart.cnt = (20 - directionOn b).toNat := by
    rw [State.phaseStart_cnt_of_mOff hpu hcu (by omega), State.offHold_nonneg (by omega), hoff']
  have hlen : s.onHold + 3 + (20 - directionOn b).toNat = s.onHold + 2 + (u.phaseStart.cnt + 1) := by omega
  have hread := State.readReg_of_rf hrf
  exact ⟨t, hlen ▸ (run_add hrun).trans hrun', hpt, hct, by omega, (hread _).trans hon', (hread _).trans hoff'⟩

/-- The cycle of a byte past the full duty: after the old on-phase's hold, the off-phase holds the next draw (R131,
R114). -/
theorem transitional_cycle_draw (hon : 20 < directionOn b) :
    ∃ t, run (s.onHold + 3) s = .next t ∧ t.phase = .mOn ∧ t.ticks = s.ticks + s.onHold ∧
      t.cnt = Config.negHold (if s.readReg .onDuration < 0 then s.draws + 1 else s.draws) (20 - directionOn b) ∧
      t.readReg .onDuration = directionOn b ∧ t.readReg .offDuration = 20 - directionOn b := by
  obtain ⟨u, hrun, ⟨hlu, -, hcu, hpu⟩, hs', hticks, hdraws, hon', hoff'⟩ :=
    run_onPhase_with_byte hprofile hb hl hphase hc hs hj
  have hcnt : u.phaseStart.cnt = Config.negHold u.draws (20 - directionOn b) := by
    rw [State.phaseStart_cnt_of_mOff hpu hcu (by omega), State.offHold, hoff', State.holdTicks_neg _ _ (by omega)]
  have hread := State.readReg_of_rf u.phaseStart_rf
  have hrun' := run_then_step hrun (step_silent_phaseStart hlu hs' hcu)
  exact ⟨_, hrun', State.phaseStart_phase_of hpu, by rw [State.phaseStart_ticks, hticks],
    by rw [hcnt, hdraws], (hread _).trans hon', (hread _).trans hoff'⟩

end

/-- Settles O39: the clauses of the rest of a hold, and those of the whole cycle. -/
theorem transitionalCycles : Obligations.TransitionalCycles := by
  intro b j hb on level
  constructor
  · intro s hprofile hl hphase hj hs
    exact ⟨transition_to_full hprofile hb hl hphase hj hs, transition_to_partial hprofile hb hl hphase hj hs,
      transition_to_draw hprofile hb hl hphase hj hs⟩
  · intro s hprofile hl hphase hc hs old hold hj
    have hhold : hold = s.onHold := s.onHold_eq.symm
    rw [hhold] at hj ⊢
    exact ⟨transitional_cycle hprofile hb hl hphase hc hs hj, transitional_cycle_draw hprofile hb hl hphase hc hs hj⟩

end Sys2Proof.Machine
end

section
/-! SUPPORT. The phase starts of the servo generator (R142 to R144, R149): what each drives and loads. -/

namespace Sys2Proof.Machine

theorem State.phaseStart_of_sX {s : State} (h : s.phase = .sX) : s.phaseStart = s.startSX := by
  rw [State.phaseStart, h]

theorem State.phaseStart_of_sY {s : State} (h : s.phase = .sY) : s.phaseStart = s.startSY := by
  rw [State.phaseStart, h]

theorem State.phaseStart_of_sIdle {s : State} (h : s.phase = .sIdle) : s.phaseStart = s.startSIdle := by
  rw [State.phaseStart, h]

/-- The step of a due phase whose start drives `v` and waits the buffer plus the count `c`: the rule that R142 and R143
share. -/
theorem step_due_pulsePhase {s : State} {p q : Phase} {v c : Int} (hdue : s.due p)
    (hstart : s.takeSlot.phaseStart = ((s.takeSlot.busWrite v).loadPulse c).setPhase q) :
    ∃ t, step s = .next t ∧ t.bus = some v ∧ t.trace = s.trace ++ [.drive v] ∧ t.phase = q ∧
      { t with bus := s.bus, cnt := s.cnt, phase := s.phase, trace := s.trace, draws := s.draws, script := s.script } =
        s ∧
      t.script = s.script.tail ∧
      (0 ≤ c → t.cnt = 55 + 18 * c.toNat ∧ t.draws = s.draws) ∧
      (c < 0 → t.cnt = 55 + Config.negHold s.draws c ∧ t.draws = s.draws + 1) := by
  refine ⟨_, step_due hdue, ?_⟩
  rw [hstart, State.pulsePhase_eq]
  refine ⟨rfl, rfl, rfl, rfl, rfl, fun h => ⟨?_, if_neg h.not_gt⟩, fun h => ⟨?_, if_pos h⟩⟩
  · exact congrArg (55 + ·) (State.holdTicks_nonneg _ 18 h)
  · exact congrArg (55 + ·) (State.holdTicks_neg _ 18 h)

/-- Settles O43: the X phase is a pulse phase of `xPulseCount`. -/
theorem xPhaseStart : Obligations.XPhaseStart := by
  intro s hdue
  obtain ⟨-, -, -, hp⟩ := id hdue
  exact step_due_pulsePhase hdue (State.phaseStart_of_sX (s := s.takeSlot) hp)

/-- Settles O44: the Y phase is a pulse phase of `yPulseCount`. -/
theorem yPhaseStart : Obligations.YPhaseStart := by
  intro s hdue
  obtain ⟨-, -, -, hp⟩ := id hdue
  exact step_due_pulsePhase hdue (State.phaseStart_of_sY (s := s.takeSlot) hp)

/-- Settles O45: the idle gap loads a constant, so its start is one update of the state. -/
theorem idlePhaseStart : Obligations.IdlePhaseStart := by
  intro s hdue
  obtain ⟨-, -, -, hp⟩ := id hdue
  rw [step_due hdue, State.phaseStart_of_sIdle (s := s.takeSlot) hp, State.startSIdle_eq]
  rfl

/-- The buffer of a pulse phase is waited in full, whatever its count and the draw (R141). -/
theorem State.pulsePhase_cnt_ge (s : State) (v c : Int) (q : Phase) :
    55 ≤ (((s.busWrite v).loadPulse c).setPhase q).cnt := by
  rw [State.pulsePhase_eq]
  exact Nat.le_add_right ..

/-- A servo phase start loads the buffer at least: a pulse phase has it, and the idle gap is longer (R149). -/
theorem State.phaseStart_cnt_ge_of_servo {s : State} (hfits : Phase.fits .servo s.phase = true) :
    55 ≤ s.phaseStart.cnt := by
  rcases hp : s.phase with _ | _ | _ | _ | _ <;> rw [hp] at hfits
  case sX =>
    rw [State.phaseStart_of_sX hp]
    exact State.pulsePhase_cnt_ge ..
  case sY =>
    rw [State.phaseStart_of_sY hp]
    exact State.pulsePhase_cnt_ge ..
  case sIdle =>
    rw [State.phaseStart_of_sIdle hp, State.startSIdle_eq]
    show 55 ≤ 1000
    decide
  all_goals contradiction

/-- Settles O46: the step of a due phase is its start. -/
theorem servoPhaseLoadsAtLeastFiftyFive : Obligations.ServoPhaseLoadsAtLeastFiftyFive := by
  intro s t hl hq hc hfits hstep
  rw [step_due ⟨hl, hq, hc, rfl⟩] at hstep
  injection hstep with ht
  rw [← ht]
  exact State.phaseStart_cnt_ge_of_servo (s := s.takeSlot) hfits

end Sys2Proof.Machine
end

section
/-! SUPPORT. The servo frame of a silent host (R140, R148): its three phases as whole states, and its real time. -/

namespace Sys2Proof.Machine

/-- A pulse phase of a silent host with a count that needs no draw, start and hold (R142, R143). -/
theorem run_silent_pulsePhase {s : State} {p q : Phase} {v : Int} {c : Nat} (hdue : s.due p) (hs : s.script = [])
    (hstart : s.phaseStart = ((s.busWrite v).loadPulse c).setPhase q) :
    run (55 + 18 * c + 1) s = .next (s.phaseEnd v (55 + 18 * c) q) := by
  obtain ⟨hl, -, hc, -⟩ := hdue
  exact run_silent_phase hl hs hc (hstart.trans (s.pulsePhase_nonneg v q (Int.natCast_nonneg c)))

theorem run_silent_xPhase {s : State} {x : Nat} (hdue : s.due .sX) (hs : s.script = [])
    (hx : s.readReg .xPulseCount = x) :
    run (55 + 18 * x + 1) s = .next (s.phaseEnd (selectLevel Config.xSel) (55 + 18 * x) .sY) := by
  obtain ⟨-, -, -, hp⟩ := id hdue
  exact run_silent_pulsePhase hdue hs (by rw [State.phaseStart_of_sX hp, State.startSX, hx])

theorem run_silent_yPhase {s : State} {y : Nat} (hdue : s.due .sY) (hs : s.script = [])
    (hy : s.readReg .yPulseCount = y) :
    run (55 + 18 * y + 1) s = .next (s.phaseEnd (selectLevel Config.ySel) (55 + 18 * y) .sIdle) := by
  obtain ⟨-, -, -, hp⟩ := id hdue
  exact run_silent_pulsePhase hdue hs (by rw [State.phaseStart_of_sY hp, State.startSY, hy])

/-- The idle gap of a silent host, start and hold (R144). -/
theorem run_silent_idleGap {s : State} (hdue : s.due .sIdle) (hs : s.script = []) :
    run 1001 s = .next (s.phaseEnd (selectLevel Config.idleSel) 1000 .sX) := by
  obtain ⟨hl, -, hc, hp⟩ := hdue
  exact run_silent_phase hl hs hc ((State.phaseStart_of_sIdle hp).trans s.startSIdle_eq)

/-- The events of the frame whose non-negative counts are `x` and `y` (R148). -/
def frameTrace (x y : Nat) : List Event :=
  phaseTrace (selectLevel Config.xSel) (55 + 18 * x) ++ phaseTrace (selectLevel Config.ySel) (55 + 18 * y) ++
    phaseTrace (selectLevel Config.idleSel) 1000

/-- One frame of a silent host: X phase, Y phase and idle gap, with `S_X` due again at its end (R140). -/
theorem run_silent_frame {s : State} {x y : Nat} (hdue : s.due .sX) (hs : s.script = [])
    (hx : s.readReg .xPulseCount = x) (hy : s.readReg .yPulseCount = y) :
    run (1113 + 18 * (x + y)) s =
      .next { s with bus := some (selectLevel Config.idleSel), trace := s.trace ++ frameTrace x y } := by
  have hlen : 1113 + 18 * (x + y) = 55 + 18 * x + 1 + (55 + 18 * y + 1 + 1001) := by omega
  have hxPhase := run_silent_xPhase hdue hs hx
  obtain ⟨hl, hq, hc, hp⟩ := hdue
  rw [hlen, run_add hxPhase,
    run_add (run_silent_yPhase (s := s.phaseEnd _ _ .sY) ⟨hl, hq, rfl, rfl⟩ hs hy),
    run_silent_idleGap (s := (s.phaseEnd _ _ .sY).phaseEnd _ _ .sIdle) ⟨hl, hq, rfl, rfl⟩ hs]
  simp [State.phaseEnd, frameTrace, hc, hp]

@[simp] theorem count_tick_phaseTrace (v : Int) (n : Nat) : (phaseTrace v n).count .tick = n := by
  simp [phaseTrace]

@[simp] theorem count_tick_cycles (n : Nat) (c : List Event) : (cycles n c).count .tick = n * c.count .tick := by
  simp [cycles, List.count_flatten]

@[simp] theorem count_tick_frameTrace (x y : Nat) : (frameTrace x y).count .tick = 1110 + 18 * (x + y) := by
  simp only [frameTrace, List.count_append, count_tick_phaseTrace]
  omega

/-- The real time of `n` frames, in 10 microseconds per base tick (R110, R148). -/
theorem State.micros_of_frames {s t : State} {x y n : Nat} (hs : s.profile = .servo) (ht : t.profile = .servo)
    (htrace : t.trace = s.trace ++ cycles n (frameTrace x y)) :
    t.micros = s.micros + n * (11100 + 180 * (x + y)) := by
  have hticks : t.ticks = s.ticks + n * (1110 + 18 * (x + y)) := by
    rw [State.ticks, htrace, List.count_append, count_tick_cycles, count_tick_frameTrace, State.ticks]
  rw [State.micros, State.micros, hs, ht, hticks]
  show (_ + _) * 10 = _ * 10 + _
  ring

/-- Settles O47: one frame from any bus value and trace, repeated, and the ticks of its trace. -/
theorem servoFrame : Obligations.ServoFrame := by
  intro s x y n hdue hprofile hs hx hy
  have hrun := run_cycles (s := s)
    (fun bus trace => run_silent_frame (s := { s with bus := bus, trace := trace }) hdue hs hx hy) n
  exact ⟨_, hrun, rfl, State.micros_of_frames hprofile hprofile rfl⟩

end Sys2Proof.Machine
end

section
/-! SUPPORT. Bytes and phase starts at one boundary: when a step stops (R160), what each context reads (R170), and that
the two come whole in either order (R165). -/

namespace Sys2Proof.Machine

@[simp] theorem State.withScript_withScript (s : State) (l l' : List Slot) :
    (s.withScript l).withScript l' = s.withScript l' := rfl

theorem State.initCall_withScript (s : State) (l : List Slot) :
    (s.withScript l).initCall = s.initCall.withScript l := by
  unfold State.initCall
  rw [apply_ite (State.withScript · l), apply_ite (State.withScript · l)]
  rfl

/-- The core's own step neither reads nor writes the script: the generator is blind to the bytes still to come (R170). -/
theorem State.advance_withScript (s : State) (l : List Slot) :
    (s.withScript l).advance = s.advance.withScript l := by
  have hl : (s.withScript l).launched = s.launched := rfl
  have hc : (s.withScript l).cnt = s.cnt := rfl
  rw [State.advance, State.advance, hl, State.generate, State.generate, hc]
  split
  · split
    · exact s.phaseStart_withScript l
    · rfl
  · exact s.initCall_withScript l

/-- A step that takes no byte is the core's own step, with the first slot gone. -/
theorem step_quiet_eq {s : State} (hq : s.rxByte = none) :
    step s = .next (s.advance.withScript s.script.tail) :=
  (step_quiet hq).trans (congrArg Host.Outcome.next (s.advance_withScript s.script.tail))

/-- The register file after a byte is the byte's closed form on the one before it (R170). -/
theorem step_byte_rf {s t : State} {b : Byte} (hb : s.rxByte = some b) (h : step s = .next t) :
    t.rf = byteEffect s.profile b s.rf := by
  rw [step_byte hb] at h
  split at h
  · rw [exec_decode] at h
    injection h with h
    rw [← h, State.takeSlot_profile, State.takeSlot_rf]
  · contradiction

/-- Settles O23: the decoder by its closed form in the byte, the profile and the registers; the generator by its
blindness to the script. -/
theorem neitherContextSeesTheOther : Obligations.NeitherContextSeesTheOther := by
  constructor
  · intro s s' t t' b hb hb' hprofile hrf h h'
    rw [step_byte_rf hb h, step_byte_rf hb' h', hprofile, hrf]
  · intro s l t t' hq hq' h h'
    rw [step_quiet_eq hq] at h
    rw [step_quiet_eq hq', State.advance_withScript] at h'
    injection h with h
    injection h' with h'
    rw [← h, ← h']
    simp only [State.withScript_withScript]

/-- A byte that comes right after a phase start writes the registers as the start left them, and nothing else. -/
theorem step_byte_after_phaseStart {s : State} (b : Byte) (rest : List Slot) (hl : s.launched = true) :
    step (s.phaseStart.withScript (.byte b :: rest)) =
      .next { s.phaseStart.withScript rest with rf := byteEffect s.profile b s.rf } := by
  obtain ⟨hprofile, -, hrf, -⟩ := s.phaseStart_frame
  have he : (s.phaseStart.withScript (.byte b :: rest)).rxEnabled = true :=
    State.rxEnabled_of_launched (s.phaseStart_launched.trans hl)
  rw [← hprofile, ← hrf]
  exact step_byte_enabled rfl he

/-- Settles O26: the two orders, each a decoder step and a phase start. -/
theorem byteAndPhaseStartInEitherOrder : Obligations.ByteAndPhaseStartInEitherOrder := by
  intro s b hl hc q
  constructor
  · have hbyte : step (s.withScript [.byte b, .idle]) =
        .next { s.withScript [.idle] with rf := byteEffect s.profile b s.rf } :=
      step_byte_enabled rfl (State.rxEnabled_of_launched hl)
    rw [run_succ_next hbyte]
    exact run_succ_next (step_due ⟨hl, rfl, hc, rfl⟩)
  · have hstart : step (s.withScript [.idle, .byte b]) = .next (s.phaseStart.withScript [.byte b]) :=
      (step_due (s := s.withScript [.idle, .byte b]) ⟨hl, rfl, hc, rfl⟩).trans
        (congrArg Host.Outcome.next (s.phaseStart_withScript [.byte b]))
    rw [run_succ_next hstart, run_succ_next (step_byte_after_phaseStart b [] hl), run_zero,
      State.phaseStart_withScript]

/-- Reception is off exactly when one of its two enables is (R35). -/
theorem State.rxEnabled_eq_false_iff (s : State) : s.rxEnabled = false ↔ s.rxIe = false ∨ s.gIe = false :=
  Bool.and_eq_false_iff

/-- Settles O20: the core's own step always answers, and so does every command once reception is on. -/
theorem onlyByteBeforeLaunchStops : Obligations.OnlyByteBeforeLaunchStops := by
  intro s
  rw [← State.rxEnabled_eq_false_iff]
  constructor
  · rintro ⟨⟨b, hb⟩, hoff⟩
    rw [step_byte hb, hoff]
    rfl
  · intro hstop
    rcases hrx : s.rxByte with _ | b
    · exact ⟨_, step_quiet hrx⟩
    · have hon : s.rxEnabled = true := Bool.eq_true_of_not_eq_false fun hoff => hstop ⟨⟨b, hrx⟩, hoff⟩
      exact ⟨_, step_byte_enabled hrx hon⟩

end Sys2Proof.Machine
end

section
/-! SUPPORT. From reset to launch (R192, R193): one initialisation call for each of the first three slots (log 3). -/

namespace Sys2Proof.Machine

/-- No byte is at the port in a slot that is idle or past the script's end (log 2). -/
theorem State.rxByte_of_idle_slots {l : List Slot} {n k : Nat} (hidle : ∀ x ∈ l.take n, x = Slot.idle) (hk : k < n)
    (s : State) : (s.withScript (l.drop k)).rxByte = none := by
  rcases hd : l.drop k with _ | ⟨b | _, rest⟩
  case nil => rfl
  case cons.idle => rfl
  case cons.byte =>
    have hslot : (l.take n)[k]? = some (.byte b) := by
      rw [List.getElem?_take_of_lt hk, ← List.head?_drop, hd, List.head?_cons]
    cases hidle _ (List.mem_of_getElem? hslot)

/-- Before launch, a slot with no byte is the next initialisation call (R192). -/
theorem step_initCall {s : State} {l : List Slot} {k : Nat} (hl : s.launched = false)
    (hq : (s.withScript (l.drop k)).rxByte = none) :
    step (s.withScript (l.drop k)) = .next (s.initCall.withScript (l.drop (k + 1))) := by
  have hcall : (s.withScript (l.drop k)).advance = s.initCall.withScript (l.drop k) := by
    rw [s.advance_withScript, State.advance, hl, if_neg Bool.false_ne_true]
  have htail : (s.withScript (l.drop k)).script.tail = l.drop (k + 1) := List.tail_drop
  rw [step_quiet_eq hq, hcall, State.withScript_withScript, htail]

/-- Settles O2: each idle slot is one call, and the enables make the three calls come in the order of R192. -/
theorem threeCallsLeadFromResetToLaunch : Obligations.ThreeCallsLeadFromResetToLaunch := by
  intro p g l hidle s
  have hq (k : Nat) (hk : k < 3) (u : State) : (u.withScript (l.drop k)).rxByte = none :=
    State.rxByte_of_idle_slots hidle hk u
  have hbus : run 1 (s.withScript l) = .next ({ s with busOutEn := true }.withScript (l.drop 1)) :=
    run_then_step (run_zero _) (step_initCall (k := 0) rfl (hq 0 (by decide) s))
  have hrx : run 2 (s.withScript l) = .next ({ s with busOutEn := true, rxIe := true }.withScript (l.drop 2)) :=
    run_then_step hbus (step_initCall rfl (hq 1 (by decide) _))
  have hglobal : run 3 (s.withScript l) = .next ((State.launchFor p g).withScript (l.drop 3)) :=
    run_then_step hrx (step_initCall rfl (hq 2 (by decide) _))
  exact ⟨hbus, hrx, hglobal, rfl, rfl, rfl, rfl, rfl⟩

end Sys2Proof.Machine
end
